-- ==== Sys2Proof/Word.lean ====
section
/-! DEFINITION. The word types of the links: bytes, timestamps, angles and counts. -/

namespace Sys2Proof

/-- One byte of a link. -/
abbrev Byte := BitVec 8

/-- A 40-bit count of ticks that wraps (00_scope, Time). -/
abbrev Timestamp := BitVec 40

/-- An unsigned angle in au, 0..2^24 − 1 (00_scope, Angles). -/
abbrev Azimuth := BitVec 24

/-- A raw encoder count field as a record carries it (00_scope, Angles). -/
abbrev RawCount := BitVec 24

/-- The 24 event flags or a set of event ids, bit n for event id n (11, section 11.4). -/
abbrev EventSet := BitVec 24

end Sys2Proof
end

