-- ==== Sys2Proof/Config.lean ====
section
/-! DEFINITION. What the part fixes: its capacities, and the values the manual leaves open (opaque, without a body). -/

namespace Sys2Proof.Config

/-- R39, R189: open pulses the Emission Queue holds. -/
def queueCapacity : Nat := 128

/-- R64, R189: entries of the echo pool. -/
def poolCapacity : Nat := 512

/-- R189: elevation sectors. -/
def sectorCount : Nat := 64

/-- R136, R189: records of the Exposure Queue on a P4C. -/
def exposureCapacity : Nat := 8

/-- R139, R189: tiles of the Tile Store on a P4C. -/
def tileCapacity : Nat := 4

/-- R162, R189: records of the history ring. -/
def historyCapacity : Nat := 16

/-- R163, R189: records of the Capture Buffer. -/
def captureCapacity : Nat := 32

/-- R184, R189: commands the queue holds behind a read. -/
def commandCapacity : Nat := 4

/-- R173, R189: bytes of the outbound buffer. -/
def bufferCapacity : Nat := 24576

/-- R173, R189: bytes of it that frames other than RSP cannot enter. -/
def responseReserve : Nat := 5120

/-- R170: records that close a batch. -/
def batchCapacity : Nat := 32

/-- R119: pipeline grants after which the command request is served. -/
def grantLimit : Nat := 64

/-- R189: "a constant set at manufacture, and this manual does not give its value". Nothing is assumed of it (log entry 4). -/
opaque revision : Byte

/-- R46 with R169: whether the n-th eviction sets QUEUE_EVICT before the frames of the evicted pulse are admitted.
"Where an event and an admission meet, either may be taken first": nothing is assumed of it (log entry 5). -/
opaque evictEventFirst : Nat → Bool

/-- R118, "A request that waits alone is granted": how many fetches of a table read fall in the n-th gap between two pipeline
requests, or between the last one and a generation switch. The manual times no request: nothing is assumed of it (log
entry 13). -/
opaque gapFetches : Nat → Nat

/-- R186: how many queued commands the interpreter takes at the n-th place where it can, before the next row. The manual times
neither the takes nor the deliveries: nothing is assumed of it (log entry 26). -/
opaque commandsTaken : Nat → Nat

/-- R141, section 11.2: the two bytes of plan entry and station in the TLR of an UNMATCHED exposure number, where both are
absent and the manual gives no bytes. Nothing is assumed of them (log entry 31). -/
opaque unmatchedFields : BitVec 16 → BitVec 16

end Sys2Proof.Config
end

