-- ==== Sys2Proof/Syntax.lean ====
section
/-! DEFINITION. The commands of the block: one constructor for each of the 46 rows of spec/opcode_table.json. -/

namespace Sys2Proof

/-- The two encoder channels (section 2.1); 01h MIRROR and 02h AZIMUTH on the link. -/
inductive ChannelId where
  | mirror
  | azimuth
  deriving DecidableEq, Repr

/-- The status of a TILE (section 11.1): 00h OK, 01h FAILED, 02h BUSY. -/
inductive TileStatus where
  | ok
  | failed
  | busy
  deriving DecidableEq, Repr

/-- One colour triple (section 11.1). -/
structure Rgb where
  r : Byte
  g : Byte
  b : Byte
  deriving DecidableEq, Repr, Inhabited

/-- The levels of the two input lines that other rows of the table cannot lower, as a row that samples them finds them:
true is high (log entry 2). -/
structure Lines where
  calEn : Bool
  recReady : Bool
  deriving DecidableEq, Repr, Inhabited

/-- The variant of the part (00_scope, Variants), fixed at manufacture. -/
inductive Variant where
  | p4c
  | p4m
  deriving DecidableEq, Repr

/-- A CMD record (section 11.1): its tag, its command code and its argument bytes. -/
structure Command where
  tag  : Byte
  code : Byte
  args : List Byte
  deriving DecidableEq, Repr

/-- A delivered record of one of the six kinds (section 1.4). -/
inductive Record where
  | fire (t : Timestamp) (mirror azimuth : RawCount)
  | echo (t : Timestamp) (amplitude : BitVec 12) (width : BitVec 10)
  | tick (t : Timestamp)
  | index (channel : ChannelId) (raw : RawCount)
  | tile (exposure : BitVec 16) (status : TileStatus) (cols rows : Byte) (cells : List Rgb)
  | cmd (command : Command)
  deriving DecidableEq, Repr

/-- One constructor for each row of spec/opcode_table.json, in its order.
A frame row carries the bytes received after the delimiter; a record row the fields of the delivered record (section 11.1);
a command row its tag and its argument bytes as delivered (R184). -/
inductive Instr where
  /-- R16. The levels the input lines have when power is applied. -/
  | powerOnReset (lines : Lines)
  /-- R16. Assertion of RESET_N. -/
  | lineReset
  /-- R16. Release of RESET_N; the levels the input lines have by then. -/
  | resetNRelease (lines : Lines)
  /-- R4. The bytes of a frame that fails the check or is cut off. -/
  | frameCheckFail (bytes : List Byte)
  /-- R2. The bytes of a frame that passes the check in HUNT. -/
  | huntFrame (bytes : List Byte)
  /-- R5. The bytes of a frame that passes the check and fails classification. -/
  | frameRefused (bytes : List Byte)
  /-- R14. -/
  | fire (t : Timestamp) (mirror azimuth : RawCount)
  /-- R56. Width in units of 16 ticks. -/
  | echo (t : Timestamp) (amplitude : BitVec 12) (width : BitVec 10)
  /-- R14. -/
  | tick (t : Timestamp)
  /-- R21. -/
  | index (channel : ChannelId) (raw : RawCount)
  /-- R137. -/
  | tile (exposure : BitVec 16) (status : TileStatus) (cols rows : Byte) (cells : List Rgb)
  /-- R187. -/
  | unknownCommand (tag code : Byte) (args : List Byte)
  /-- R189. -/
  | identify (tag : Byte) (args : List Byte)
  /-- R190. -/
  | getStatus (tag : Byte) (args : List Byte)
  /-- R178. -/
  | readEvents (tag : Byte) (args : List Byte)
  /-- R179. -/
  | clearEvents (tag : Byte) (args : List Byte)
  /-- R191. -/
  | setParam (tag : Byte) (args : List Byte)
  /-- R192. -/
  | getParam (tag : Byte) (args : List Byte)
  /-- R109. -/
  | tableWrite (tag : Byte) (args : List Byte)
  /-- R120. -/
  | tableRead (tag : Byte) (args : List Byte)
  /-- R121. One grant to the command request; the lines as the commands behind a finished read find them. -/
  | tableReadFetch (lines : Lines)
  /-- R111. -/
  | tableCommit (tag : Byte) (args : List Byte)
  /-- R116. -/
  | tableCancel (tag : Byte) (args : List Byte)
  /-- R117. CAL_EN is reported as found. -/
  | tableState (tag : Byte) (args : List Byte) (lines : Lines)
  /-- R124. CAL_EN is consulted as found. -/
  | setProtect (tag : Byte) (args : List Byte) (lines : Lines)
  /-- R40. -/
  | start (tag : Byte) (args : List Byte)
  /-- R42. -/
  | stop (tag : Byte) (args : List Byte)
  /-- R55. -/
  | resync (tag : Byte) (args : List Byte)
  /-- R152. -/
  | triggerSet (tag : Byte) (args : List Byte)
  /-- R155. -/
  | triggerArm (tag : Byte) (args : List Byte)
  /-- R165. -/
  | triggerRead (tag : Byte) (args : List Byte)
  /-- R166. -/
  | captureRead (tag : Byte) (args : List Byte)
  /-- R198. REC_READY may have fallen while the frame that this reset cuts short was leaving. -/
  | reset (tag : Byte) (args : List Byte) (lines : Lines)
  /-- R49. -/
  | pulseClose
  /-- R172. -/
  | batchFlush
  /-- R157. -/
  | l2WindowEnd
  /-- R163. -/
  | captureFull
  /-- R142. The azimuth of the pulse at which the ends are examined. -/
  | tileTimeout (laser : Azimuth)
  /-- R143. The azimuth of the pulse at which the ends are examined. -/
  | tileRetire (laser : Azimuth)
  /-- R114. -/
  | generationSwitch
  /-- R41. -/
  | streamStarted
  /-- R43. -/
  | drainEnd
  /-- R176. -/
  | recReadyRise
  /-- R176. REC_READY as the test at the departure's end finds it. -/
  | frameDepartureEnd (lines : Lines)
  /-- R174. -/
  | rspWaitAdmit
  /-- R133. -/
  | camTrigPulseEnd
  deriving DecidableEq, Repr

end Sys2Proof
end

