-- ==== Sys2Proof/Decode.lean ====
section
/-! DEFINITION. Reading the Head Link: big-endian numbers, the frame check, the frame envelope, classification, and the
encoder of the same layouts. No row of the opcode table has bits, so decodeTableWord reads nothing. -/

namespace Sys2Proof

/-! ### Numbers on the links (R201: most significant byte first) -/

/-- The unsigned number that bytes spell, most significant first. -/
def beNat (bs : List Byte) : Nat :=
  bs.foldl (fun acc b => acc * 256 + b.toNat) 0

/-- The `n` low bytes of a number, most significant first. -/
def beBytes : Nat → Nat → List Byte
  | 0, _ => []
  | n + 1, v => BitVec.ofNat 8 (v / 256 ^ n) :: beBytes n v

/-- The two's complement form of a signed number in `n` bytes. -/
def beIntBytes (n : Nat) (v : Int) : List Byte :=
  beBytes n (v % (256 ^ n : Int)).toNat

/-- The value in −2^(bits−1)..2^(bits−1) − 1 congruent to `v` modulo 2^bits (00_scope, "signed modulo 2^B"). -/
def signedMod (bits : Nat) (v : Int) : Int :=
  Int.bmod v (2 ^ bits)

/-- The number that bytes spell in two's complement. -/
def beInt (bs : List Byte) : Int :=
  signedMod (8 * bs.length) (beNat bs)

/-! ### The frame check (R1) -/

/-- One bit of the division by 1021h. -/
def crcStep (c : BitVec 16) : BitVec 16 :=
  if c.msb then (c <<< 1) ^^^ 0x1021#16 else c <<< 1

/-- One byte, most significant bit first. -/
def crcByte (c : BitVec 16) (b : Byte) : BitVec 16 :=
  crcStep (crcStep (crcStep (crcStep (crcStep (crcStep (crcStep (crcStep
    (c ^^^ (b.zeroExtend 16 <<< 8)))))))))

/-- R1: the CRC-16 with generator 1021h from FFFFh, without inversion. -/
def crc16 (bs : List Byte) : BitVec 16 :=
  bs.foldl crcByte 0xFFFF#16

/-- The kind and payload of a frame that passes the check (R1). The bytes are those received from one delimiter to the next:
fewer than the length asks for make an incomplete frame, and bytes past a complete frame are idle fill. -/
def checkFrame (bytes : List Byte) : Option (Byte × List Byte) :=
  match bytes with
  | kind :: lenHi :: lenLo :: rest =>
    let len := beNat [lenHi, lenLo]
    let payload := rest.take len
    let check := (rest.drop len).take 2
    if check.length = 2 ∧ crc16 (kind :: lenHi :: lenLo :: payload) = BitVec.ofNat 16 (beNat check) then
      some (kind, payload)
    else none
  | _ => none

/-! ### Classification (R5, R6) -/

/-- Section 1.4: "argument bytes, 0..1024 of them". -/
def maxArgs : Nat := 1024

/-- The status a TILE's status byte names, if any (section 11.1). -/
def tileStatusOf (b : Byte) : Option TileStatus :=
  match b.toNat with
  | 0 => some .ok
  | 1 => some .failed
  | 2 => some .busy
  | _ => none

/-- The colour triples of a payload's cell bytes; none when they are not whole triples. -/
def cellsOf : List Byte → Option (List Rgb)
  | [] => some []
  | r :: g :: b :: rest => (cellsOf rest).map (⟨r, g, b⟩ :: ·)
  | _ => none

/-- R6: cols in 1..32, rows in 1..64, and as many cells as the status and the dimensions ask for. -/
def tileFieldsOk (status : TileStatus) (cols rows : Byte) (cells : List Rgb) : Bool :=
  decide (1 ≤ cols.toNat ∧ cols.toNat ≤ 32 ∧ 1 ≤ rows.toNat ∧ rows.toNat ≤ 64 ∧
    cells.length = if status = .ok then cols.toNat * rows.toNat else 0)

/-- R6 on a payload: the tile it carries when it passes the tile tests. -/
def classifyTile (payload : List Byte) : Option Record :=
  match payload with
  | n1 :: n0 :: st :: cols :: rows :: rest =>
    match tileStatusOf st, cellsOf rest with
    | some status, some cells =>
      if tileFieldsOk status cols rows cells then
        some (.tile (BitVec.ofNat 16 (beNat [n1, n0])) status cols rows cells)
      else none
    | _, _ => none
  | _ => none

/-- The channel an INDEX's channel byte names, if any (section 11.1). -/
def channelOf (b : Byte) : Option ChannelId :=
  match b.toNat with
  | 1 => some .mirror
  | 2 => some .azimuth
  | _ => none

/-- R5, R6: the record a frame that passes the check in SYNC delivers; none when it is refused. On a P4M every TILE is
refused. -/
def classify (variant : Variant) (kind : Byte) (payload : List Byte) : Option Record :=
  match kind.toNat with
  | 1 =>
    if payload.length = 11 then
      some (.fire (BitVec.ofNat 40 (beNat (payload.take 5))) (BitVec.ofNat 24 (beNat ((payload.drop 5).take 3)))
        (BitVec.ofNat 24 (beNat (payload.drop 8))))
    else none
  | 2 =>
    if payload.length = 8 then
      let w := beNat (payload.drop 5)
      some (.echo (BitVec.ofNat 40 (beNat (payload.take 5))) (BitVec.ofNat 12 (w / 4096)) (BitVec.ofNat 10 (w / 4)))
    else none
  | 3 => if payload.length = 5 then some (.tick (BitVec.ofNat 40 (beNat payload))) else none
  | 4 =>
    match payload with
    | [ch, b2, b1, b0] => (channelOf ch).map fun c => .index c (BitVec.ofNat 24 (beNat [b2, b1, b0]))
    | _ => none
  | 5 => if variant = .p4c then classifyTile payload else none
  | 6 =>
    match payload with
    | tag :: code :: args => if args.length ≤ maxArgs then some (.cmd ⟨tag, code, args⟩) else none
    | _ => none
  | _ => none

/-! ### The encoder of the same layouts (section 11.1) -/

/-- The status byte of a TILE. -/
def TileStatus.byte : TileStatus → Byte
  | .ok => 0x00#8
  | .failed => 0x01#8
  | .busy => 0x02#8

/-- The channel byte of an INDEX. -/
def ChannelId.byte : ChannelId → Byte
  | .mirror => 0x01#8
  | .azimuth => 0x02#8

/-- The kind byte of a record's frame. -/
def Record.kind : Record → Byte
  | .fire .. => 0x01#8
  | .echo .. => 0x02#8
  | .tick .. => 0x03#8
  | .index .. => 0x04#8
  | .tile .. => 0x05#8
  | .cmd .. => 0x06#8

/-- The payload of a record's frame (section 11.1); spare bits are sent as zero. -/
def Record.payload : Record → List Byte
  | .fire t m a => beBytes 5 t.toNat ++ beBytes 3 m.toNat ++ beBytes 3 a.toNat
  | .echo t a w => beBytes 5 t.toNat ++ beBytes 3 (a.toNat * 4096 + w.toNat * 4)
  | .tick t => beBytes 5 t.toNat
  | .index c raw => c.byte :: beBytes 3 raw.toNat
  | .tile n st cols rows cells => beBytes 2 n.toNat ++ [st.byte, cols, rows] ++ cells.flatMap fun c => [c.r, c.g, c.b]
  | .cmd c => c.tag :: c.code :: c.args

/-- A whole frame of the Head Link after its delimiter: kind, length, payload and check (R1). -/
def encodeFrame (r : Record) : List Byte :=
  let body := r.kind :: (beBytes 2 r.payload.length ++ r.payload)
  body ++ beBytes 2 (crc16 body).toNat

/-! ### The opcode table -/

/-- The rows of spec/opcode_table.json carry no bits ("fields": [] in every row), so no word spells a command. -/
def decodeTableWord (_nbits _w : Nat) : Option Instr := none

end Sys2Proof
end

