-- ==== Sys2Proof/Machine/State.lean ====
section
/-! DEFINITION. The state of the part, block by block, as plain data, and the state after a power-on reset. -/

namespace Sys2Proof.Machine

/-! ### Outcomes -/

/-- The spec names no condition that stops the part: bad frames are refused (R5), bad commands answered (R187), full stores
evict, drop or refuse with an event. So no meaning faults, and the type is empty. -/
inductive Fault where
  deriving DecidableEq, Repr

/-- Reasons a step has no meaning. -/
inductive Refusal where
  /-- Raised by exec alone, for a row whose meaning is not written. No arm raises it now. Safe: the machine stops. -/
  | notModelled (mnemonic : String)
  deriving DecidableEq, Repr

/-! ### Enumerations -/

/-- Section 1.3. -/
inductive LinkState where
  | hunt
  | sync
  deriving DecidableEq, Repr

/-- Section 2.3. -/
inductive ChannelState where
  | unlocked
  | acquiring
  | tracking
  | holding
  | fault
  deriving DecidableEq, Repr

/-- Section 3.2. -/
inductive RunState where
  | stopped
  | waiting
  | running
  | draining
  deriving DecidableEq, Repr

/-- Section 3.5; codes 1..5. -/
inductive ResyncReason where
  | command
  | timeJump
  | mirrorRefLost
  | azRefLost
  | linkLost
  deriving DecidableEq, Repr

/-- R105. -/
inductive ActiveStatus where
  | empty
  | valid
  deriving DecidableEq, Repr

/-- R105. -/
inductive StagedStatus where
  | clean
  | dirty
  | pending
  deriving DecidableEq, Repr

/-- Section 6.8: OPEN, LINE, FROZEN. -/
inductive ProtectMode where
  | openMode
  | line
  | frozen
  deriving DecidableEq, Repr

/-- Section 6.1: the eight tables, in id order. -/
inductive TableId where
  | rangeConst
  | walk
  | zonePlan
  | echoPolicy
  | elevCorr
  | azCorr
  | facet
  | exposurePlan
  deriving DecidableEq, Repr

/-- The banks a TABLE_READ can name (R120). -/
inductive ReadBank where
  | staged
  | active
  deriving DecidableEq, Repr

/-- R62. -/
inductive ZonePolicy where
  | nearest
  | farthest
  | track
  | discard
  deriving DecidableEq, Repr, Inhabited

/-- Section 5.2. -/
inductive OutputPolicy where
  | all
  | first
  | last
  | strongest
  | firstLast
  deriving DecidableEq, Repr, Inhabited

/-- Section 5.2. -/
inductive TiePref where
  | near
  | far
  deriving DecidableEq, Repr, Inhabited

/-- Section 8.2. -/
inductive TriggerMode where
  | one
  | two
  deriving DecidableEq, Repr

/-- Section 8.4. -/
inductive TriggerState where
  | off
  | waitL1
  | l1Hit
  | waitL2
  | l2Hit
  deriving DecidableEq, Repr

/-- Section 8.6. -/
inductive CaptureState where
  | empty
  | filling
  | full
  deriving DecidableEq, Repr

/-- Section 11.2: the outcomes a TLR reports. -/
inductive TileOutcome where
  | stored
  | dropped
  | unmatched
  | failed
  | busy
  | timeout
  deriving DecidableEq, Repr

/-- Section 10.2. -/
inductive ResultCode where
  | ok
  | unknownCommand
  | notSupported
  | badArgument
  | wrongState
  | busy
  | tableProtected
  | locked
  | malformed
  deriving DecidableEq, Repr

/-- AzSign (section 2.2). -/
inductive Sign where
  | plus
  | minus
  deriving DecidableEq, Repr

/-- AlertPolA, AlertPolB (R180). -/
inductive Polarity where
  | high
  | low
  deriving DecidableEq, Repr

/-- The 24 events of section 9.6, in id order. -/
inductive Event where
  | reset
  | streamStarted
  | streamStopped
  | resync
  | linkCrc
  | frameReject
  | linkLost
  | mirrorHold
  | azHold
  | indexSlip
  | angleFault
  | queueEvict
  | echoOrphan
  | echoAmbiguous
  | echoOverflow
  | commitDone
  | exposureMissed
  | tileTimeout
  | tileFailed
  | tileDropped
  | trigL1
  | trigHit
  | captureFull
  | outOverrun
  deriving DecidableEq, Repr

/-! ### Lines and parameters -/

/-- The plain lines that hold state: three inputs and CAM_TRIG. The alert lines are computed (R180). -/
structure Pins where
  /-- RESET_N is asserted. -/
  resetHeld : Bool
  /-- CAL_EN is high. -/
  calEn : Bool
  /-- REC_READY is high. -/
  recReady : Bool
  /-- CAM_TRIG is in the pulse of an exposure. -/
  camTrig : Bool
  deriving DecidableEq, Repr

/-- The 26 parameters of section 10.6. -/
structure Params where
  mirrorBits : Nat
  azBits : Nat
  mirrorVarLimit : Nat
  azVarLimit : Nat
  mirrorIndexMargin : Nat
  azIndexMargin : Nat
  facets : Nat
  deflection : Nat
  azSign : Sign
  camEnable : Bool
  camLead : Nat
  timeSlack : Nat
  batchFlush : Nat
  /-- StatusSelect0..7. -/
  statusSelect : List Nat
  alertMaskA : EventSet
  alertMaskB : EventSet
  alertPolA : Polarity
  alertPolB : Polarity
  keepMask : EventSet
  deriving DecidableEq, Repr

/-! ### Head Link Receiver and Angle Tracker -/

/-- Section 1.1. -/
structure Hlr where
  link : LinkState
  goodRun : Nat
  badRun : Nat
  streamTime : Option Timestamp
  rejected : Nat
  deriving DecidableEq, Repr

/-- Section 2.1: one encoder channel. -/
structure Channel where
  state : ChannelState
  ref : Nat
  samples : Nat
  last : Nat
  step : Int
  rejectRun : Nat
  goodRun : Nat
  used : Nat
  deriving DecidableEq, Repr

/-- Section 2.1. -/
structure Ant where
  mirror : Channel
  azimuth : Channel
  lastFacet : Option Nat
  sweep : BitVec 32
  deriving DecidableEq, Repr

/-! ### Pulses, echoes and points -/

/-- The colour a pulse keeps (section 3.1). -/
structure Colour where
  rgb : Rgb
  exposure : BitVec 16
  deriving DecidableEq, Repr

/-- An echo entry of the pool (section 3.1); width in units of 16 ticks, range in range units. -/
structure EchoEntry where
  amplitude : BitVec 12
  width : BitVec 10
  range : Nat
  zone : Nat
  deriving DecidableEq, Repr

/-- A pulse record of the Emission Queue (section 3.1). -/
structure Pulse where
  seq : BitVec 32
  tFire : Timestamp
  elevation : Int
  azimuth : Azimuth
  facet : Nat
  sweep : BitVec 32
  gen : BitVec 8
  elevHeld : Bool
  azHeld : Bool
  echoOverflow : Bool
  colour : Option Colour
  echoes : List EchoEntry
  deriving DecidableEq, Repr

/-- The range group of a point record (section 5.6), absent in a MISS record. -/
structure RangeGroup where
  range : Nat
  amplitude : BitVec 12
  width : BitVec 10
  deriving DecidableEq, Repr

/-- A point record (section 5.6). MISS is the absence of the range group, HAS_COLOUR the presence of the colour group (R94). -/
structure PointRecord where
  seq : BitVec 32
  tFire : Timestamp
  elevation : Int
  azimuth : Azimuth
  facet : Nat
  sweep : BitVec 16
  echoIndex : Nat
  echoCount : Nat
  zone : Nat
  echo : Option RangeGroup
  colour : Option Colour
  trimmed : Bool
  echoOverflow : Bool
  evicted : Bool
  elevHeld : Bool
  azHeld : Bool
  mark : Bool
  deriving DecidableEq, Repr

/-- Sections 3.1, 3.2, 3.5. -/
structure Emq where
  run : RunState
  /-- Open pulses, the head first (R39). -/
  queue : List Pulse
  accepted : BitVec 32
  closed : BitVec 32
  flushed : BitVec 32
  evicted : Nat
  lastClosed : Option (BitVec 32)
  lastResync : Option ResyncReason
  deriving DecidableEq, Repr

/-- Sections 3.7, 3.8. The entries that are not free stand in the open pulses' lists. -/
structure Eca where
  free : Nat
  /-- The 64 Zone Track entries. -/
  zoneTrack : List Nat
  orphans : BitVec 32
  ambiguous : BitVec 32
  deriving DecidableEq, Repr

/-- Section 5.1. -/
structure Ptf where
  lastSweep : Option (BitVec 32)
  deriving DecidableEq, Repr

/-! ### Table Store -/

/-- ZONE_PLAN entry (section 6.1). -/
structure ZoneEntry where
  rmin : Nat
  rmax : Nat
  maxZone : Nat
  policy : ZonePolicy
  deriving DecidableEq, Repr, Inhabited

/-- ECHO_POLICY entry (section 5.2). -/
structure PolicyEntry where
  policy : OutputPolicy
  outMax : Nat
  maxEchoes : Nat
  ampMin : Nat
  widthMin : Nat
  widthMax : Nat
  tiePref : TiePref
  missReport : Bool
  deriving DecidableEq, Repr, Inhabited

/-- FACET entry (section 6.1). -/
structure FacetEntry where
  offset : Int
  enable : Bool
  deriving DecidableEq, Repr, Inhabited

/-- EXPOSURE_PLAN entry (section 6.1). -/
structure PlanEntry where
  station : Nat
  target : Azimuth
  span : Nat
  elLo : Int
  elHi : Int
  enable : Bool
  deriving DecidableEq, Repr, Inhabited

/-- The entry type of each table. RANGE_CONST entries are the 32-bit words of the link (section 4.1). -/
abbrev EntryOf : TableId → Type
  | .rangeConst => BitVec 32
  | .walk => Int
  | .zonePlan => ZoneEntry
  | .echoPolicy => PolicyEntry
  | .elevCorr => Int
  | .azCorr => Int
  | .facet => FacetEntry
  | .exposurePlan => PlanEntry

/-- One bank of all eight tables (section 6.2). -/
structure Bank where
  rangeConst : List (BitVec 32)
  walk : List Int
  zonePlan : List ZoneEntry
  echoPolicy : List PolicyEntry
  elevCorr : List Int
  azCorr : List Int
  facet : List FacetEntry
  exposurePlan : List PlanEntry
  deriving DecidableEq, Repr

/-- One value for each table. -/
structure PerTable (α : Type) where
  rangeConst : α
  walk : α
  zonePlan : α
  echoPolicy : α
  elevCorr : α
  azCorr : α
  facet : α
  exposurePlan : α
  deriving DecidableEq, Repr

/-- Section 6.8: the protection word and mode. -/
structure Protection where
  firstTable : Nat
  count : Nat
  complement : Bool
  mode : ProtectMode
  deriving DecidableEq, Repr

/-- Sections 6.2, 6.7, 6.8. -/
structure Tbs where
  staged : Bank
  bankActive : Bank
  retiring : Bank
  activeStatus : PerTable ActiveStatus
  stagedStatus : PerTable StagedStatus
  generation : BitVec 8
  protection : Protection
  /-- Consecutive pipeline grants made while the command request waits (R119). -/
  grants : Nat
  deriving DecidableEq, Repr

/-! ### Exposure Unit -/

/-- An exposure record (section 7.1). -/
structure Exposure where
  number : BitVec 16
  planEntry : Nat
  station : Nat
  tFire : Timestamp
  azimuth : Azimuth
  elevation : Int
  azLo : Azimuth
  span : Nat
  elLo : Int
  elHi : Int
  deriving DecidableEq, Repr

/-- A tile of the Tile Store (section 7.1). -/
structure Tile where
  number : BitVec 16
  azLo : Azimuth
  span : Nat
  elLo : Int
  elHi : Int
  cols : Nat
  rows : Nat
  cells : List Rgb
  deriving DecidableEq, Repr

/-- Section 7.1. -/
structure Exu where
  pointer : Option Nat
  seek : Bool
  prevLead : Option Azimuth
  prevLaser : Option Azimuth
  counter : BitVec 16
  /-- The Exposure Queue, oldest first. -/
  queue : List Exposure
  tiles : List Tile
  deriving DecidableEq, Repr

/-! ### Trigger Unit -/

/-- A trigger condition (section 8.2); flags in the bit order of section 11.3. -/
structure Condition where
  rangeLo : Nat
  rangeHi : Nat
  amplitudeMin : Nat
  flagMask : Byte
  flagValue : Byte
  echoIndex : Nat
  deriving DecidableEq, Repr

/-- A trigger configuration (section 8.2). -/
structure TriggerConfig where
  mode : TriggerMode
  condA : Condition
  condB : Condition
  l2Window : Nat
  respMark : Bool
  respCapture : Bool
  respAlert : Bool
  markCount : Nat
  rearm : Bool
  deriving DecidableEq, Repr

/-- Section 8.1. -/
structure Tru where
  config : TriggerConfig
  state : TriggerState
  window : Nat
  hits : Nat
  marks : Nat
  alertUnread : Bool
  /-- The history ring, oldest first. -/
  history : List PointRecord
  capState : CaptureState
  capture : List PointRecord
  toGo : Nat
  hitPos : Nat
  skipped : Bool
  deriving DecidableEq, Repr

/-! ### Record Link Framer -/

/-- An answer to one command (section 10.2): what an RSP carries. -/
structure Answer where
  tag : Byte
  code : Byte
  result : ResultCode
  body : List Byte
  deriving DecidableEq, Repr

/-- What each outbound frame kind carries (R168, section 11.2). -/
inductive Payload where
  /-- Point records. -/
  | pts (records : List PointRecord)
  /-- R98: sweep number, seq and facet. -/
  | swp (sweep seq : BitVec 32) (facet : Nat)
  /-- R53: reason, pulses removed, last closed seq. -/
  | rsy (reason : ResyncReason) (removed : Nat) (lastClosed : Option (BitVec 32))
  /-- R135. -/
  | exp (exposure : Exposure)
  /-- R141: number, outcome, LATE, plan entry and station of the record, cols and rows of a stored tile. -/
  | tlr (number : BitVec 16) (outcome : TileOutcome) (late : Bool) (record : Option (Nat × Nat)) (cols rows : Nat)
  /-- R188. -/
  | rsp (answer : Answer)
  deriving DecidableEq, Repr

/-- A frame in the outbound buffer: what was written at its admission (R169, R175, R204). -/
structure OutFrame where
  payload : Payload
  summary : Byte
  gap : Bool
  check : BitVec 16
  deriving DecidableEq, Repr

/-- Section 9.1. The frame leaving, if any, is the head of the buffer. -/
structure Rlf where
  batch : List PointRecord
  buffer : List OutFrame
  waiting : List Answer
  departing : Bool
  gap : Bool
  dropped : Nat
  deriving DecidableEq, Repr

/-! ### Command Interpreter -/

/-- A TABLE_READ in execution (R121, R122). -/
structure Reading where
  tag : Byte
  table : TableId
  bank : ReadBank
  start : Nat
  count : Nat
  /-- Fetches granted so far. -/
  done : Nat
  firstGen : BitVec 8
  lastGen : BitVec 8
  split : Bool
  /-- The entries fetched so far, in the form of section 11.5. -/
  entries : List Byte
  deriving DecidableEq, Repr

/-- Section 10.1. -/
structure Cmi where
  reading : Option Reading
  queue : List Command
  deriving DecidableEq, Repr

/-! ### The whole part -/

/-- Everything the spec gives the part, with two fields of the model's own: `pending`, the commands waiting, and `freeCount`,
the free values drawn so far (log entry 5). -/
structure State where
  variant : Variant
  pins : Pins
  params : Params
  hlr : Hlr
  ant : Ant
  emq : Emq
  eca : Eca
  ptf : Ptf
  tbs : Tbs
  exu : Exu
  tru : Tru
  rlf : Rlf
  flags : EventSet
  cmi : Cmi
  freeCount : Nat
  pending : List Instr
  deriving DecidableEq, Repr

/-! ### Reset values -/

/-- Section 10.6, "Power-on and line reset". -/
def Params.initial : Params where
  mirrorBits := 16
  azBits := 20
  mirrorVarLimit := 64
  azVarLimit := 16
  mirrorIndexMargin := 4
  azIndexMargin := 4
  facets := 4
  deflection := 2
  azSign := .plus
  camEnable := false
  camLead := 0
  timeSlack := 64
  batchFlush := 64000000
  statusSelect := [3, 6, 10, 11, 12, 23, 17, 21]
  alertMaskA := 0
  alertMaskB := 0
  alertPolA := .high
  alertPolB := .high
  keepMask := 0

/-- R16: the receiver after every reset. -/
def Hlr.initial : Hlr where
  link := .hunt
  goodRun := 0
  badRun := 0
  streamTime := none
  rejected := 0

/-- R36, R37: a channel after every reset. -/
def Channel.initial : Channel where
  state := .unlocked
  ref := 0
  samples := 0
  last := 0
  step := 0
  rejectRun := 0
  goodRun := 0
  used := 0

/-- R36, R37: the tracker after every reset. -/
def Ant.initial : Ant where
  mirror := Channel.initial
  azimuth := Channel.initial
  lastFacet := none
  sweep := 0

/-- R68. -/
def Emq.initial : Emq where
  run := .stopped
  queue := []
  accepted := 0
  closed := 0
  flushed := 0
  evicted := 0
  lastClosed := none
  lastResync := none

/-- R63: the Zone Track array after a resync or a reset. -/
def Eca.zeroTrack : List Nat := List.replicate Config.sectorCount 0

/-- R69. -/
def Eca.initial : Eca where
  free := Config.poolCapacity
  zoneTrack := Eca.zeroTrack
  orphans := 0
  ambiguous := 0

/-- R102. -/
def Ptf.initial : Ptf where
  lastSweep := none

/-- R103: the content of every bank after a power-on or line reset. -/
def Bank.zero : Bank where
  rangeConst := List.replicate 5 0
  walk := List.replicate 64 0
  zonePlan := List.replicate 64 ⟨0, 0, 0, .nearest⟩
  echoPolicy := List.replicate 1 ⟨.all, 0, 0, 0, 0, 0, .near, false⟩
  elevCorr := List.replicate 256 0
  azCorr := List.replicate 256 0
  facet := List.replicate 8 ⟨0, false⟩
  exposurePlan := List.replicate 64 ⟨0, 0, 0, 0, 0, false⟩

/-- One value for every table. -/
def PerTable.const {α : Type} (a : α) : PerTable α := ⟨a, a, a, a, a, a, a, a⟩

/-- R125: the protection after a power-on reset. -/
def Protection.initial : Protection where
  firstTable := 0
  count := 0
  complement := false
  mode := .openMode

/-- R125. -/
def Tbs.initial : Tbs where
  staged := Bank.zero
  bankActive := Bank.zero
  retiring := Bank.zero
  activeStatus := PerTable.const .empty
  stagedStatus := PerTable.const .clean
  generation := 0
  protection := Protection.initial
  grants := 0

/-- R150, R151: the unit's own state after every reset. -/
def Exu.initial : Exu where
  pointer := none
  seek := false
  prevLead := none
  prevLaser := none
  counter := 0
  queue := []
  tiles := []

/-- Section 8.2: a condition whose every field holds its open value. -/
def Condition.openValues : Condition where
  rangeLo := 0
  rangeHi := 2 ^ 28 - 1
  amplitudeMin := 0
  flagMask := 0
  flagValue := 0
  echoIndex := 0

/-- R167. -/
def TriggerConfig.initial : TriggerConfig where
  mode := .one
  condA := Condition.openValues
  condB := Condition.openValues
  l2Window := 1
  respMark := false
  respCapture := false
  respAlert := false
  markCount := 0
  rearm := false

/-- R167. -/
def Tru.initial : Tru where
  config := TriggerConfig.initial
  state := .off
  window := 0
  hits := 0
  marks := 0
  alertUnread := false
  history := []
  capState := .empty
  capture := []
  toGo := 0
  hitPos := 0
  skipped := false

/-- R182. -/
def Rlf.initial : Rlf where
  batch := []
  buffer := []
  waiting := []
  departing := false
  gap := false
  dropped := 0

/-- R199. -/
def Cmi.initial : Cmi where
  reading := none
  queue := []

/-- R183: RESET alone set. -/
def resetFlags : EventSet := 1

/-- The state after a power-on reset (R16, R36, R68, R69, R102, R125, R150, R167, R182, R183, R199) of the given variant.
Log entries 1, 2 and 3 say what the spec leaves open here. -/
def State.powerOn (variant : Variant) (calEn recReady : Bool) (freeCount : Nat) (pending : List Instr) : State where
  variant := variant
  pins := { resetHeld := false, calEn := calEn, recReady := recReady, camTrig := false }
  params := Params.initial
  hlr := Hlr.initial
  ant := Ant.initial
  emq := Emq.initial
  eca := Eca.initial
  ptf := Ptf.initial
  tbs := Tbs.initial
  exu := Exu.initial
  tru := Tru.initial
  rlf := Rlf.initial
  flags := resetFlags
  cmi := Cmi.initial
  freeCount := freeCount
  pending := pending

/-- The part right after a power-on reset: a P4C (log entry 1), both input lines low (log entry 2). -/
def State.reset : State :=
  State.powerOn .p4c false false 0 []

end Sys2Proof.Machine
end

