-- ==== Sys2Proof/Machine/Ops.lean ====
section
/-! DEFINITION. The named updates of the state, one for each block, and the smallest shared operations. -/

namespace Sys2Proof.Machine

/-! ### Updating one block -/

/-- Update the lines. -/
def State.onPins (s : State) (f : Pins → Pins) : State := { s with pins := f s.pins }

/-- Update the parameter set. -/
def State.onParams (s : State) (f : Params → Params) : State := { s with params := f s.params }

/-- Update the Head Link Receiver. -/
def State.onHlr (s : State) (f : Hlr → Hlr) : State := { s with hlr := f s.hlr }

/-- Update the Angle Tracker. -/
def State.onAnt (s : State) (f : Ant → Ant) : State := { s with ant := f s.ant }

/-- Update the Emission Queue. -/
def State.onEmq (s : State) (f : Emq → Emq) : State := { s with emq := f s.emq }

/-- Update the Echo Assigner. -/
def State.onEca (s : State) (f : Eca → Eca) : State := { s with eca := f s.eca }

/-- Update the Point Former. -/
def State.onPtf (s : State) (f : Ptf → Ptf) : State := { s with ptf := f s.ptf }

/-- Update the Table Store. -/
def State.onTbs (s : State) (f : Tbs → Tbs) : State := { s with tbs := f s.tbs }

/-- Update the Exposure Unit. -/
def State.onExu (s : State) (f : Exu → Exu) : State := { s with exu := f s.exu }

/-- Update the Trigger Unit. -/
def State.onTru (s : State) (f : Tru → Tru) : State := { s with tru := f s.tru }

/-- Update the Record Link Framer. -/
def State.onRlf (s : State) (f : Rlf → Rlf) : State := { s with rlf := f s.rlf }

/-- Update the Command Interpreter. -/
def State.onCmi (s : State) (f : Cmi → Cmi) : State := { s with cmi := f s.cmi }

/-- Write the event flags. -/
def State.setFlags (s : State) (flags : EventSet) : State := { s with flags := flags }

/-- Count one free value drawn. -/
def State.drawFree (s : State) : State := { s with freeCount := s.freeCount + 1 }

/-! ### Counting -/

/-- One more, stopping at the largest value (00_scope, "saturating"). -/
def satSucc (limit n : Nat) : Nat := if n < limit then n + 1 else n

/-! ### Events (section 9.6) -/

/-- The id of an event. -/
def Event.id : Event → Nat
  | .reset => 0
  | .streamStarted => 1
  | .streamStopped => 2
  | .resync => 3
  | .linkCrc => 4
  | .frameReject => 5
  | .linkLost => 6
  | .mirrorHold => 7
  | .azHold => 8
  | .indexSlip => 9
  | .angleFault => 10
  | .queueEvict => 11
  | .echoOrphan => 12
  | .echoAmbiguous => 13
  | .echoOverflow => 14
  | .commitDone => 15
  | .exposureMissed => 16
  | .tileTimeout => 17
  | .tileFailed => 18
  | .tileDropped => 19
  | .trigL1 => 20
  | .trigHit => 21
  | .captureFull => 22
  | .outOverrun => 23

/-- The set that holds one event. -/
def Event.bit (e : Event) : EventSet := 1#24 <<< e.id

/-- R177: raising an event sets its flag; a flag already set stays set. -/
def State.raise (s : State) (e : Event) : State := s.setFlags (s.flags ||| e.bit)

/-- Whether an event's flag is set. -/
def State.hasEvent (s : State) (e : Event) : Bool := s.flags.getLsbD e.id

/-- R7: a frame that passed the check is discarded with FRAME_REJECT and counted. -/
def State.rejectFrame (s : State) : State :=
  (s.raise .frameReject).onHlr fun h => { h with rejected := satSucc 65535 h.rejected }

end Sys2Proof.Machine
end

