-- ==== Sys2Proof/Machine/Layout.lean ====
section
/-! DEFINITION. The byte layouts of the Record Link (chapter 11): codes, point records, answers' parts, frames. -/

namespace Sys2Proof.Machine

/-- A Boolean as the byte 00h or 01h. -/
def boolByte (b : Bool) : Byte := if b then 1 else 0

/-- A number as one byte. -/
def byte (n : Nat) : Byte := BitVec.ofNat 8 n

/-! ### Codes (section 11.4) -/

def RunState.code : RunState → Nat
  | .stopped => 0
  | .waiting => 1
  | .running => 2
  | .draining => 3

def ChannelState.code : ChannelState → Nat
  | .unlocked => 0
  | .acquiring => 1
  | .tracking => 2
  | .holding => 3
  | .fault => 4

def LinkState.code : LinkState → Nat
  | .hunt => 0
  | .sync => 1

def ResyncReason.code : ResyncReason → Nat
  | .command => 1
  | .timeJump => 2
  | .mirrorRefLost => 3
  | .azRefLost => 4
  | .linkLost => 5

def ActiveStatus.code : ActiveStatus → Nat
  | .empty => 0
  | .valid => 1

def StagedStatus.code : StagedStatus → Nat
  | .clean => 0
  | .dirty => 1
  | .pending => 2

def ProtectMode.code : ProtectMode → Nat
  | .openMode => 0
  | .line => 1
  | .frozen => 2

def TriggerState.code : TriggerState → Nat
  | .off => 0
  | .waitL1 => 1
  | .l1Hit => 2
  | .waitL2 => 3
  | .l2Hit => 4

def CaptureState.code : CaptureState → Nat
  | .empty => 0
  | .filling => 1
  | .full => 2

def TileOutcome.code : TileOutcome → Nat
  | .stored => 1
  | .dropped => 2
  | .unmatched => 3
  | .failed => 4
  | .busy => 5
  | .timeout => 6

def ResultCode.code : ResultCode → Nat
  | .ok => 0
  | .unknownCommand => 1
  | .notSupported => 2
  | .badArgument => 3
  | .wrongState => 4
  | .busy => 5
  | .tableProtected => 6
  | .locked => 7
  | .malformed => 8

/-- The code of the last resync reason; 0 is none (R54). -/
def resyncCode : Option ResyncReason → Nat
  | none => 0
  | some r => r.code

/-! ### Point records (section 11.3, R202) -/

/-- R94: whether the record is a MISS record. -/
def PointRecord.miss (r : PointRecord) : Bool := r.echo.isNone

/-- R96: whether the record carries the colour group. -/
def PointRecord.hasColour (r : PointRecord) : Bool := r.colour.isSome

/-- The flags byte: bit 0 MISS, 1 TRIMMED, 2 ECHO_OVERFLOW, 3 EVICTED, 4 ELEV_HELD, 5 AZ_HELD, 6 MARK, 7 HAS_COLOUR. -/
def PointRecord.flagsByte (r : PointRecord) : Byte :=
  byte (r.miss.toNat + 2 * r.trimmed.toNat + 4 * r.echoOverflow.toNat + 8 * r.evicted.toNat +
    16 * r.elevHeld.toNat + 32 * r.azHeld.toNat + 64 * r.mark.toNat + 128 * r.hasColour.toNat)

/-- The echo word: facet in bits 55..53, width in 49..40, amplitude in 39..28, range in 27..0; the range group is zero in a
MISS record (R202). -/
def PointRecord.echoWord (r : PointRecord) : Nat :=
  r.facet % 8 * 2 ^ 53 +
    match r.echo with
    | some e => e.width.toNat * 2 ^ 40 + e.amplitude.toNat * 2 ^ 28 + e.range % 2 ^ 28
    | none => 0

/-- Bytes 27..31: the colour group, zero when absent (R202). -/
def colourBytes : Option Colour → List Byte
  | some c => [c.rgb.r, c.rgb.g, c.rgb.b] ++ beBytes 2 c.exposure.toNat
  | none => [0, 0, 0, 0, 0]

/-- The 32 bytes of a point record. -/
def PointRecord.bytes (r : PointRecord) : List Byte :=
  beBytes 4 r.seq.toNat ++ beBytes 5 r.tFire.toNat ++ beIntBytes 3 r.elevation ++ beBytes 3 r.azimuth.toNat ++
    beBytes 2 r.sweep.toNat ++ [r.flagsByte, byte (r.echoIndex % 16 * 16 + r.echoCount % 16), byte (r.zone % 128)] ++
    beBytes 7 r.echoWord ++ colourBytes r.colour

/-! ### Table entries (section 11.5) -/

def ZonePolicy.code : ZonePolicy → Nat
  | .nearest => 0
  | .farthest => 1
  | .track => 2
  | .discard => 3

def OutputPolicy.code : OutputPolicy → Nat
  | .all => 0
  | .first => 1
  | .last => 2
  | .strongest => 3
  | .firstLast => 4

def TiePref.code : TiePref → Nat
  | .near => 0
  | .far => 1

/-- The bytes of one entry as TABLE_READ returns it. -/
def entryBytes : (t : TableId) → EntryOf t → List Byte
  | .rangeConst, w => beBytes 4 w.toNat
  | .walk, v => beIntBytes 2 v
  | .zonePlan, z => beBytes 4 z.rmin ++ beBytes 4 z.rmax ++ [byte z.maxZone, byte z.policy.code]
  | .echoPolicy, p =>
    [byte p.policy.code, byte p.outMax, byte p.maxEchoes] ++ beBytes 2 p.ampMin ++ beBytes 2 p.widthMin ++
      beBytes 2 p.widthMax ++ [byte p.tiePref.code, boolByte p.missReport]
  | .elevCorr, v => beIntBytes 2 v
  | .azCorr, v => beIntBytes 2 v
  | .facet, f => beIntBytes 2 f.offset ++ [boolByte f.enable]
  | .exposurePlan, e =>
    byte e.station :: (beBytes 3 e.target.toNat ++ beBytes 3 e.span ++ beIntBytes 3 e.elLo ++ beIntBytes 3 e.elHi ++
      [boolByte e.enable])

/-! ### Frames (section 11.2) -/

/-- The kind byte of an outbound frame. -/
def Payload.kind : Payload → Byte
  | .pts .. => 0x81#8
  | .swp .. => 0x82#8
  | .rsy .. => 0x83#8
  | .exp .. => 0x84#8
  | .tlr .. => 0x85#8
  | .rsp .. => 0x86#8

/-- Whether the frame is an RSP (R173). -/
def Payload.isRsp : Payload → Bool
  | .rsp _ => true
  | _ => false

/-- Whether the frame is a PTS (R175). -/
def Payload.isPts : Payload → Bool
  | .pts _ => true
  | _ => false

/-- Point records in the frame (R175). -/
def Payload.points : Payload → Nat
  | .pts rs => rs.length
  | _ => 0

/-- The payload bytes of each kind. Where a TLR carries no record fields (R141), the manual gives no bytes for their places:
they are free (log entry 31). Its indications have bit 0 and bit 1 assigned, and the others are sent as zero, which is the
model's choice (log entry 32). -/
def Payload.bytes : Payload → List Byte
  | .pts rs => rs.flatMap PointRecord.bytes
  | .swp sweep seq facet => beBytes 4 sweep.toNat ++ beBytes 4 seq.toNat ++ [byte facet, 0, 0, 0]
  | .rsy reason removed last =>
    match last with
    | some seq => [byte reason.code, byte removed, 1, 0] ++ beBytes 4 seq.toNat
    | none => [byte reason.code, byte removed, 0, 0, 0, 0, 0, 0]
  | .exp x =>
    beBytes 2 x.number.toNat ++ [byte x.planEntry, byte x.station] ++ beBytes 5 x.tFire.toNat ++
      beBytes 3 x.azimuth.toNat ++ beIntBytes 3 x.elevation ++ beBytes 3 x.azLo.toNat ++ beBytes 3 x.span ++
      beIntBytes 3 x.elLo ++ beIntBytes 3 x.elHi
  | .tlr number outcome late record cols rows =>
    beBytes 2 number.toNat ++ [byte outcome.code, byte (late.toNat + 2 * record.isSome.toNat)] ++
      (match record with
        | some (entry, station) => [byte entry, byte station]
        | none => beBytes 2 (Config.unmatchedFields number).toNat) ++ [byte cols, byte rows]
  | .rsp a => [a.tag, a.code, byte a.result.code, 0] ++ a.body

/-- The payload length of each kind (section 11.2), which `Payload.bytes` has (R204). -/
def Payload.size : Payload → Nat
  | .pts rs => 32 * rs.length
  | .swp .. => 12
  | .rsy .. => 8
  | .exp _ => 27
  | .tlr .. => 8
  | .rsp a => 4 + a.body.length

/-- R168: the length a frame occupies in the buffer, 8 bytes of header and check and its payload. -/
def Payload.frameLength (p : Payload) : Nat := 8 + p.size

/-- The six header bytes of a frame (section 11.2). -/
def headerBytes (p : Payload) (summary : Byte) (gap : Bool) : List Byte :=
  [p.kind, summary, boolByte gap, 0] ++ beBytes 2 p.size

/-- R204: the check over the header and the payload. -/
def frameCheck (p : Payload) (summary : Byte) (gap : Bool) : BitVec 16 :=
  crc16 (headerBytes p summary gap ++ p.bytes)

/-- The frame as the Record Link carries it after its delimiter. -/
def OutFrame.bytes (f : OutFrame) : List Byte :=
  headerBytes f.payload f.summary f.gap ++ f.payload.bytes ++ beBytes 2 f.check.toNat

end Sys2Proof.Machine
end

