-- ==== Sys2Proof/Machine/Tables.lean ====
section
/-! DEFINITION. The Table Store (chapter 6): tables, banks, generation switches, protection and the read port. -/

namespace Sys2Proof.Machine

/-! ### Tables (section 6.1) -/

/-- The table a table number names (R103); none above 7. -/
def tableOf : Nat → Option TableId
  | 0 => some .rangeConst
  | 1 => some .walk
  | 2 => some .zonePlan
  | 3 => some .echoPolicy
  | 4 => some .elevCorr
  | 5 => some .azCorr
  | 6 => some .facet
  | 7 => some .exposurePlan
  | _ => none

/-- The number of a table. -/
def TableId.number : TableId → Nat
  | .rangeConst => 0
  | .walk => 1
  | .zonePlan => 2
  | .echoPolicy => 3
  | .elevCorr => 4
  | .azCorr => 5
  | .facet => 6
  | .exposurePlan => 7

/-- Every table, in id order. -/
def allTables : List TableId :=
  [.rangeConst, .walk, .zonePlan, .echoPolicy, .elevCorr, .azCorr, .facet, .exposurePlan]

/-- The entries each table has. -/
def TableId.entries : TableId → Nat
  | .rangeConst => 5
  | .walk => 64
  | .zonePlan => 64
  | .echoPolicy => 1
  | .elevCorr => 256
  | .azCorr => 256
  | .facet => 8
  | .exposurePlan => 64

/-- The bytes one entry has on the links (section 11.5). -/
def TableId.entryLength : TableId → Nat
  | .rangeConst => 4
  | .walk => 2
  | .zonePlan => 10
  | .echoPolicy => 11
  | .elevCorr => 2
  | .azCorr => 2
  | .facet => 3
  | .exposurePlan => 14

/-- R103: table 7 on a P4M. -/
def tableAbsent (variant : Variant) (t : TableId) : Bool :=
  decide (variant = .p4m ∧ t = .exposurePlan)

/-- R107: the entry that the k-th place of a write or read from `start` falls on, wrapping in the segment of 32. -/
def segmentIndex (t : TableId) (start k : Nat) : Nat :=
  let base := start / 32 * 32
  let len := min 32 (t.entries - base)
  base + (start - base + k) % len

/-! ### Banks -/

/-- The content of one table in a bank. -/
def Bank.table (b : Bank) : (t : TableId) → List (EntryOf t)
  | .rangeConst => b.rangeConst
  | .walk => b.walk
  | .zonePlan => b.zonePlan
  | .echoPolicy => b.echoPolicy
  | .elevCorr => b.elevCorr
  | .azCorr => b.azCorr
  | .facet => b.facet
  | .exposurePlan => b.exposurePlan

/-- Replace the content of one table. -/
def Bank.setTable (b : Bank) : (t : TableId) → List (EntryOf t) → Bank
  | .rangeConst, c => { b with rangeConst := c }
  | .walk, c => { b with walk := c }
  | .zonePlan, c => { b with zonePlan := c }
  | .echoPolicy, c => { b with echoPolicy := c }
  | .elevCorr, c => { b with elevCorr := c }
  | .azCorr, c => { b with azCorr := c }
  | .facet, c => { b with facet := c }
  | .exposurePlan, c => { b with exposurePlan := c }

/-- The all-zero entry of each table (R103). -/
def zeroEntry : (t : TableId) → EntryOf t
  | .rangeConst => 0#32
  | .walk => (0 : Int)
  | .zonePlan => ⟨0, 0, 0, .nearest⟩
  | .echoPolicy => ⟨.all, 0, 0, 0, 0, 0, .near, false⟩
  | .elevCorr => (0 : Int)
  | .azCorr => (0 : Int)
  | .facet => ⟨0, false⟩
  | .exposurePlan => ⟨0, 0, 0, 0, 0, false⟩

/-- One entry of a bank. -/
def Bank.entry (b : Bank) (t : TableId) (i : Nat) : EntryOf t := (b.table t).getD i (zeroEntry t)

/-- RANGE_CONST entry 0 (R70). -/
def Bank.k (b : Bank) : Nat := (b.rangeConst.getD 0 0).toNat

/-- RANGE_CONST entry 1, signed (R70). -/
def Bank.z0 (b : Bank) : Int := (b.rangeConst.getD 1 0).toInt

/-- RANGE_CONST entry 2 (R70). -/
def Bank.globalRmin (b : Bank) : Nat := (b.rangeConst.getD 2 0).toNat

/-- RANGE_CONST entry 3 (R70). -/
def Bank.globalRmax (b : Bank) : Nat := (b.rangeConst.getD 3 0).toNat

/-- RANGE_CONST entry 4 (R70). -/
def Bank.listenTicks (b : Bank) : Nat := (b.rangeConst.getD 4 0).toNat

/-- The one ECHO_POLICY record. -/
def Bank.policy (b : Bank) : PolicyEntry := b.entry .echoPolicy 0

/-- R104: the bank a pulse of generation `gen` is served from: ACTIVE for the current generation, RETIRING for the one
before, the only other that an open pulse carries (R112, log entry 15). -/
def Tbs.bankOf (t : Tbs) (gen : BitVec 8) : Bank :=
  if gen = t.generation then t.bankActive else t.retiring

/-- R104 for a pulse. -/
def State.bankFor (s : State) (p : Pulse) : Bank := s.tbs.bankOf p.gen

/-- R120: the bank a TABLE_READ names. -/
def Tbs.readBank (t : Tbs) : ReadBank → Bank
  | .staged => t.staged
  | .active => t.bankActive

/-! ### Statuses (R105) -/

/-- The value of one table. -/
def PerTable.get {α : Type} (p : PerTable α) : TableId → α
  | .rangeConst => p.rangeConst
  | .walk => p.walk
  | .zonePlan => p.zonePlan
  | .echoPolicy => p.echoPolicy
  | .elevCorr => p.elevCorr
  | .azCorr => p.azCorr
  | .facet => p.facet
  | .exposurePlan => p.exposurePlan

/-- Replace the value of one table. -/
def PerTable.set {α : Type} (p : PerTable α) (t : TableId) (a : α) : PerTable α :=
  match t with
  | .rangeConst => { p with rangeConst := a }
  | .walk => { p with walk := a }
  | .zonePlan => { p with zonePlan := a }
  | .echoPolicy => { p with echoPolicy := a }
  | .elevCorr => { p with elevCorr := a }
  | .azCorr => { p with azCorr := a }
  | .facet => { p with facet := a }
  | .exposurePlan => { p with exposurePlan := a }

/-- A PerTable from a function of the table. -/
def PerTable.tabulate {α : Type} (f : TableId → α) : PerTable α :=
  ⟨f .rangeConst, f .walk, f .zonePlan, f .echoPolicy, f .elevCorr, f .azCorr, f .facet, f .exposurePlan⟩

/-- Whether a table's STAGED status is PENDING. -/
def Tbs.isPending (t : Tbs) (id : TableId) : Bool := decide (t.stagedStatus.get id = .pending)

/-- Whether any table is PENDING. -/
def Tbs.anyPending (t : Tbs) : Bool := allTables.any t.isPending

/-! ### Generation switch (R114) -/

/-- The content `id` has in ACTIVE after a switch. -/
def Tbs.switchedTable (t : Tbs) (id : TableId) : List (EntryOf id) :=
  if t.isPending id then t.staged.table id else t.bankActive.table id

/-- R114, items 1 to 3, on the Table Store. -/
def Tbs.switch (t : Tbs) : Tbs :=
  { t with
    retiring := t.bankActive
    bankActive :=
      { rangeConst := t.switchedTable .rangeConst
        walk := t.switchedTable .walk
        zonePlan := t.switchedTable .zonePlan
        echoPolicy := t.switchedTable .echoPolicy
        elevCorr := t.switchedTable .elevCorr
        azCorr := t.switchedTable .azCorr
        facet := t.switchedTable .facet
        exposurePlan := t.switchedTable .exposurePlan }
    activeStatus := PerTable.tabulate fun id => if t.isPending id then .valid else t.activeStatus.get id
    stagedStatus := PerTable.tabulate fun id => if t.isPending id then .clean else t.stagedStatus.get id
    generation := t.generation + 1 }

/-- R122: a read of the ACTIVE bank between its first and last fetch sees a switch. -/
def Reading.sawSwitch (r : Reading) : Reading :=
  { r with split := r.split || (decide (r.bank = .active) && decide (0 < r.done) && decide (r.done < r.count)) }

/-- R130: a notice that makes a seek pending; without effect on a P4M (R149). -/
def State.noticeSeek (s : State) : State :=
  if s.variant = .p4c then s.onExu fun x => { x with seek := true } else s

/-- R114: a generation switch, with COMMIT_DONE and the notice to the Exposure Unit. -/
def State.generationSwitch (s : State) : State :=
  (((s.onTbs Tbs.switch).onCmi fun c => { c with reading := c.reading.map Reading.sawSwitch }).raise .commitDone).noticeSeek

/-- R112: a switch at a boundary, when a table is PENDING and every open pulse carries the current generation. -/
def State.boundaryNotice (s : State) : State :=
  if s.tbs.anyPending && s.emq.queue.all (fun p => decide (p.gen = s.tbs.generation)) then s.generationSwitch else s

/-! ### Protection (R123) -/

/-- Whether a table is in the protected set. -/
def Protection.covers (p : Protection) (t : TableId) : Bool :=
  let inRun := decide (p.firstTable ≤ t.number ∧ t.number < p.firstTable + p.count)
  if p.complement then !inRun else inRun

/-! ### The read port (section 6.7) -/

/-- Whether a command request waits at the port: a read in execution with fetches to make. -/
def State.commandWaits (s : State) : Bool :=
  match s.cmi.reading with
  | some r => decide (r.done < r.count)
  | none => false

/-- One fetch of a read (R118, R121): the entry as the named bank stands at the grant. -/
def Reading.fetch (r : Reading) (t : Tbs) : Reading :=
  { r with
    done := r.done + 1
    firstGen := if r.done = 0 then t.generation else r.firstGen
    lastGen := t.generation
    entries := r.entries ++
      entryBytes r.table ((t.readBank r.bank).entry r.table (segmentIndex r.table r.start r.done)) }

/-- A grant to the command request, which returns the port's count to 0 (R119); nothing when none waits. -/
def State.grantCommand (s : State) : State :=
  if s.commandWaits then
    (s.onCmi fun c => { c with reading := c.reading.map fun r => r.fetch s.tbs }).onTbs fun t => { t with grants := 0 }
  else s

/-- `n` grants in a row to the command request; none once the read has its last entry. -/
def grantCommands : Nat → State → State
  | 0, s => s
  | n + 1, s => grantCommands n s.grantCommand

/-- A gap in which no pipeline request waits: a command request waits alone and is granted (R118), a free number of times (log
entry 13). -/
def State.portGap (s : State) : State :=
  if s.commandWaits then grantCommands (Config.gapFetches s.freeCount) s.drawFree else s

/-- The arbitration of a pipeline request (R119): a command request that has waited for 64 pipeline grants goes first; the
grant to the pipeline counts while a command request waits. -/
def State.arbitrate (s : State) : State :=
  let s' := if Config.grantLimit ≤ s.tbs.grants then s.grantCommand else s
  if s'.commandWaits then s'.onTbs fun t => { t with grants := t.grants + 1 } else s'

/-- A pipeline request, behind the gap before it (R118, R119); nothing when no read is in execution. -/
def State.pipelineRequest (s : State) : State :=
  if s.portGap.commandWaits then s.portGap.arbitrate else s.portGap

/-- `n` pipeline requests in a row. -/
def State.pipelineRequests : Nat → State → State
  | 0, s => s
  | n + 1, s => if s.commandWaits then State.pipelineRequests n s.pipelineRequest else s

/-- R113: the switch at an entry to STOPPED, when a table is PENDING; the gap before it is a place for fetches (R118). -/
def State.stoppedSwitch (s : State) : State :=
  if s.tbs.anyPending then s.portGap.generationSwitch else s

end Sys2Proof.Machine
end

