-- ==== Sys2Proof/Machine/Flags.lean ====
section
/-! DEFINITION. What the event flags drive: the status summary byte and the alert lines. -/

namespace Sys2Proof.Machine

/-- R169: bit n of the byte is the flag whose id the n-th select entry names; 31 gives 0. -/
def summaryOf (select : List Nat) (flags : EventSet) : Byte :=
  BitVec.ofNat 8 ((select.zipIdx.map fun p => if flags.getLsbD p.1 then 2 ^ p.2 else 0).sum)

/-- R169: the status summary byte of a frame admitted now. -/
def State.summary (s : State) : Byte := summaryOf s.params.statusSelect s.flags

/-- R180: a line is asserted while a flag its mask names is set. -/
def alertAsserted (mask flags : EventSet) : Bool := decide (flags &&& mask ≠ 0)

/-- R180: the level of an asserted or deasserted line under its polarity; true is high. -/
def alertLevel (pol : Polarity) (asserted : Bool) : Bool :=
  match pol with
  | .high => asserted
  | .low => !asserted

/-- R180: the level of ALERT_A; low while RESET_N is asserted. -/
def State.alertA (s : State) : Bool :=
  !s.pins.resetHeld && alertLevel s.params.alertPolA (alertAsserted s.params.alertMaskA s.flags)

/-- R180: the level of ALERT_B; low while RESET_N is asserted. -/
def State.alertB (s : State) : Bool :=
  !s.pins.resetHeld && alertLevel s.params.alertPolB (alertAsserted s.params.alertMaskB s.flags)

end Sys2Proof.Machine
end

