-- ==== Sys2Proof/Machine/Framer.lean ====
section
/-! DEFINITION. The Record Link Framer (chapter 9): batches, admission, refusal, the response wait list and departures. -/

namespace Sys2Proof.Machine

/-! ### Space (section 9.1) -/

/-- Bytes that a list of frames occupies. -/
def framesBytes (fs : List OutFrame) : Nat := (fs.map fun f => f.payload.frameLength).sum

/-- Every byte in the buffer, the leaving frame included. -/
def State.bufferBytes (s : State) : Nat := framesBytes s.rlf.buffer

/-- Section 9.1, "Response bytes": bytes of RSP frames in the buffer. -/
def State.rspBytes (s : State) : Nat := framesBytes (s.rlf.buffer.filter fun f => f.payload.isRsp)

/-- Bytes of the other frames in the buffer. -/
def State.otherBytes (s : State) : Nat := framesBytes (s.rlf.buffer.filter fun f => !f.payload.isRsp)

/-- R173: whether a PTS, SWP, RSY, EXP or TLR offered now is admitted. -/
def State.fitsOutsideReserve (s : State) (p : Payload) : Bool :=
  s.rlf.waiting.isEmpty &&
    decide (s.otherBytes + max s.rspBytes Config.responseReserve + p.frameLength ≤ Config.bufferCapacity)

/-- R174: whether a frame's length is at most the free space. -/
def State.fitsFreeSpace (s : State) (p : Payload) : Bool :=
  decide (s.bufferBytes + p.frameLength ≤ Config.bufferCapacity)

/-! ### Admission -/

/-- R175: the GAP bit is carried by a PTS alone. -/
def State.gapFor (s : State) (p : Payload) : Bool := p.isPts && s.rlf.gap

/-- R169, R204: the frame as it is written at its admission. -/
def State.stamp (s : State) (p : Payload) : OutFrame where
  payload := p
  summary := s.summary
  gap := s.gapFor p
  check := frameCheck p s.summary (s.gapFor p)

/-- R173, R174, R175, R176: the frame joins the buffer behind every other; a PTS clears GAP pending; a frame admitted to an
empty buffer begins to leave when REC_READY is high. -/
def State.admitFrame (s : State) (p : Payload) : State :=
  s.onRlf fun r =>
    { r with
      buffer := r.buffer ++ [s.stamp p]
      gap := r.gap && !p.isPts
      departing := r.departing || (r.buffer.isEmpty && s.pins.recReady) }

/-- R175: a refused frame raises OUT_OVERRUN, sets GAP pending and counts its points. -/
def State.refuseFrame (s : State) (p : Payload) : State :=
  (s.raise .outOverrun).onRlf fun r =>
    { r with gap := true, dropped := min (2 ^ 32 - 1) (r.dropped + p.points) }

/-- R173: the offer of a frame other than an RSP. -/
def State.offer (s : State) (p : Payload) : State :=
  if s.fitsOutsideReserve p then s.admitFrame p else s.refuseFrame p

/-- R174: the offer of an RSP, admitted or placed in the wait list. -/
def State.offerAnswer (s : State) (a : Answer) : State :=
  if s.rlf.waiting.isEmpty && s.fitsFreeSpace (.rsp a) then s.admitFrame (.rsp a)
  else s.onRlf fun r => { r with waiting := r.waiting ++ [a] }

/-! ### Batches (section 9.2) -/

/-- Close the open batch, if it holds a record, and offer it as a PTS (R170, R171, R172). -/
def State.closeBatch (s : State) : State :=
  match s.rlf.batch with
  | [] => s
  | r :: rs => (s.onRlf fun f => { f with batch := [] }).offer (.pts (r :: rs))

/-- R171: an SWP or an RSY closes the batch first. -/
def State.offerMarker (s : State) (p : Payload) : State := s.closeBatch.offer p

/-- R170: a record joins the batch, and the 32nd closes it. -/
def State.placeRecord (s : State) (r : PointRecord) : State :=
  let s' := s.onRlf fun f => { f with batch := f.batch ++ [r] }
  if s'.rlf.batch.length = Config.batchCapacity then s'.closeBatch else s'

/-- R172: whether the open batch is older than BatchFlushTicks in stream time. -/
def State.batchExpired (s : State) : Bool :=
  match s.hlr.streamTime, s.rlf.batch with
  | some now, r :: _ => decide (s.params.batchFlush < (now - r.tFire).toNat)
  | _, _ => false

/-- R172: the batch age test. -/
def State.batchAgeTest (s : State) : State := if s.batchExpired then s.closeBatch else s

/-! ### Sending (section 9.4) -/

/-- R176: the oldest frame begins to leave when none is leaving and REC_READY is high. -/
def State.tryDepart (s : State) : State :=
  s.onRlf fun r => { r with departing := r.departing || (!r.buffer.isEmpty && s.pins.recReady) }

/-- R174: admit answers from the front of the wait list while the front one fits. -/
def admitWaiting : List Answer → State → State
  | [], s => s.onRlf fun r => { r with waiting := [] }
  | a :: rest, s =>
    if s.fitsFreeSpace (.rsp a) then
      admitWaiting rest (s.admitFrame (.rsp a))
    else s.onRlf fun r => { r with waiting := a :: rest }

/-- R174 on the wait list held. -/
def State.admitAnswers (s : State) : State := admitWaiting s.rlf.waiting s

/-- R176: a departure ends: the frame's length returns to the free space, waiting answers are admitted, and the next frame
may begin to leave. -/
def State.endDeparture (s : State) : State :=
  if s.rlf.departing then
    ((s.onRlf fun r => { r with buffer := r.buffer.tail, departing := false }).admitAnswers).tryDepart
  else s

/-! ### The input lines -/

/-- The input lines come to the levels a row finds (log entry 2). A REC_READY that has risen is a rise (R176). -/
def State.withLines (s : State) (l : Lines) : State :=
  let rose := l.recReady && !s.pins.recReady
  let s' := s.onPins fun p => { p with calEn := l.calEn, recReady := l.recReady }
  if rose then s'.tryDepart else s'

end Sys2Proof.Machine
end

