-- ==== Sys2Proof/Machine/Trigger.lean ====
section
/-! DEFINITION. The Trigger Unit (chapter 8): conditions, the passage of a record, hits, captures and sweep changes. -/

namespace Sys2Proof.Machine

/-! ### Conditions (R153) -/

/-- R153, tests 1 and 5: the range test. -/
def Condition.rangeTest (c : Condition) (r : PointRecord) : Bool :=
  match r.echo with
  | some e => decide (c.rangeLo ≤ e.range ∧ e.range ≤ c.rangeHi)
  | none => decide (c.rangeLo = 0 ∧ c.rangeHi = 2 ^ 28 - 1)

/-- R153, tests 2 and 5: the amplitude test. -/
def Condition.amplitudeTest (c : Condition) (r : PointRecord) : Bool :=
  match r.echo with
  | some e => decide (c.amplitudeMin ≤ e.amplitude.toNat)
  | none => decide (c.amplitudeMin = 0)

/-- R153, test 3: under the mask, the record's flags equal the value; MARK is tested as clear. -/
def Condition.flagTest (c : Condition) (r : PointRecord) : Bool :=
  decide (({ r with mark := false } : PointRecord).flagsByte &&& c.flagMask = c.flagValue &&& c.flagMask)

/-- R153, test 4. -/
def Condition.indexTest (c : Condition) (r : PointRecord) : Bool :=
  decide (c.echoIndex = 0 ∨ c.echoIndex = r.echoIndex)

/-- R153: all the tests hold. -/
def Condition.meets (c : Condition) (r : PointRecord) : Bool :=
  c.rangeTest r && c.amplitudeTest r && c.flagTest r && c.indexTest r

/-! ### The steps of R154 -/

/-- R154, item 1: the test of a record: the unit after it, and whether the record is a hit (R156, R157, R158). -/
def Tru.test (t : Tru) (r : PointRecord) : Tru × Bool :=
  match t.state with
  | .waitL1 =>
    if t.config.condA.meets r then
      match t.config.mode with
      | .one => ({ t with state := .l1Hit }, true)
      | .two => ({ t with state := .waitL2, window := t.config.l2Window }, false)
    else (t, false)
  | .waitL2 =>
    if t.config.condB.meets r then ({ t with state := .l2Hit, window := 0 }, true)
    else if t.window ≤ 1 then ({ t with state := .waitL1, window := 0 }, false)
    else ({ t with window := t.window - 1 }, false)
  | .off => (t, false)
  | .l1Hit => (t, false)
  | .l2Hit => (t, false)

/-- R156: whether the test opened a window, which raises TRIG_L1. -/
def Tru.opensWindow (t : Tru) (r : PointRecord) : Bool :=
  decide (t.state = .waitL1 ∧ t.config.mode = .two) && t.config.condA.meets r

/-- R160, R161: the count and responses of a hit, but for the capture. -/
def Tru.hit (t : Tru) : Tru :=
  { t with
    hits := satSucc 65535 t.hits
    alertUnread := t.alertUnread || t.config.respAlert
    marks := if t.config.respMark then t.config.markCount else t.marks }

/-- R154, items 2 and 3: the record with its MARK, and the unit with the marks remaining. -/
def Tru.markRecord (t : Tru) (isHit : Bool) (r : PointRecord) : Tru × PointRecord :=
  if isHit then (t, { r with mark := r.mark || t.config.respMark })
  else if 0 < t.marks then ({ t with marks := t.marks - 1 }, { r with mark := true })
  else (t, r)

/-- Whether a hit begins a capture (R163): the response is configured and the capture state EMPTY. -/
def Tru.beginsCapture (t : Tru) (isHit : Bool) : Bool :=
  isHit && t.config.respCapture && decide (t.capState = .empty)

/-- R163: a capture begins with the history and the hit record. -/
def Tru.beginCapture (t : Tru) (r : PointRecord) : Tru :=
  { t with
    capState := .filling
    capture := t.history ++ [r]
    hitPos := t.history.length + 1
    toGo := 15 }

/-- R164: a CAPTURE hit that begins no capture sets capture skipped. -/
def Tru.noteSkipped (t : Tru) (isHit : Bool) : Tru :=
  if isHit && t.config.respCapture && !decide (t.capState = .empty) then { t with skipped := true } else t

/-- R163: a FULL buffer. -/
def Tru.fillUp (t : Tru) : Tru := { t with capState := .full, toGo := 0 }

/-- R163: a later record enters a FILLING buffer. -/
def Tru.appendCapture (t : Tru) (r : PointRecord) : Tru :=
  { t with capture := t.capture ++ [r], toGo := t.toGo - 1 }

/-- R162: a record joins the history ring, and the oldest of 16 leaves. -/
def Tru.joinHistory (t : Tru) (r : PointRecord) : Tru :=
  { t with history := (t.history ++ [r]).drop (t.history.length + 1 - Config.historyCapacity) }

/-- R163: the capture becomes FULL, with CAPTURE_FULL. -/
def State.captureBecomesFull (s : State) : State := (s.onTru Tru.fillUp).raise .captureFull

/-- R154, items 1 to 5: the record as it leaves the unit, and the state after. -/
def State.triggerPass (s : State) (r : PointRecord) : State × PointRecord :=
  let opens := s.tru.opensWindow r
  let (t1, isHit) := s.tru.test r
  let s1 := if opens then s.raise .trigL1 else s
  let s2 := if isHit then s1.raise .trigHit else s1
  let t2 := if isHit then t1.hit else t1
  let (t3, r') := t2.markRecord isHit r
  let begins := t3.beginsCapture isHit
  let t4 := if begins then t3.beginCapture r' else t3.noteSkipped isHit
  let fills := !begins && decide (t4.capState = .filling)
  let t5 := if fills then t4.appendCapture r' else t4
  let s3 := s2.onTru fun _ => t5
  let s4 := if fills && decide (t5.toGo = 0) then s3.captureBecomesFull else s3
  let s5 := if t5.state = .off then s4 else s4.onTru fun t => t.joinHistory r'
  (s5, r')

/-- R154, R100: a record passes the unit and is placed in the open batch. -/
def State.passRecord (s : State) (r : PointRecord) : State :=
  (s.triggerPass r).1.placeRecord (s.triggerPass r).2

/-- R159: a sweep change in the point stream. -/
def State.sweepChange (s : State) : State :=
  let s' := s.onTru fun t =>
    if t.config.rearm && (decide (t.state = .l1Hit) || decide (t.state = .l2Hit)) then
      { t with state := .waitL1, window := 0 }
    else t
  if s'.tru.alertUnread then s'.raise .trigHit else s'

/-- R164: the entry to STOPPED turns a FILLING capture FULL. -/
def State.captureAtStop (s : State) : State :=
  if s.tru.capState = .filling then s.captureBecomesFull else s

end Sys2Proof.Machine
end

