-- ==== Sys2Proof/Machine/Points.lean ====
section
/-! DEFINITION. The Point Former (chapter 5): the sweep test, the acceptable set, the output policies, point records. -/

namespace Sys2Proof.Machine

/-- R85: the acceptable set, in list order. -/
def acceptableSet (p : PolicyEntry) (echoes : List EchoEntry) : List EchoEntry :=
  echoes.filter fun e =>
    decide (p.ampMin ≤ e.amplitude.toNat ∧ p.widthMin ≤ e.width.toNat ∧ e.width.toNat ≤ p.widthMax)

/-- An echo with its position in the acceptable set, counted from 1 (R91). -/
abbrev Placed := Nat × EchoEntry

/-- The acceptable set with positions. -/
def withPositions (a : List EchoEntry) : List Placed := (a.zipIdx 1).map fun x => (x.2, x.1)

/-- R84: an OutMax of 0 acts as 1. -/
def PolicyEntry.outLimit (p : PolicyEntry) : Nat := max 1 p.outMax

/-- R86: all of the set, or its first m − 1 members and its last. -/
def chooseAll (m : Nat) (a : List Placed) : List Placed :=
  if a.length ≤ m then a else a.take (m - 1) ++ a.getLast?.toList

/-- R89, tests 1 to 3: whether `x` is kept before `y` in the order of strength. -/
def strongerThan (tie : TiePref) (x y : Placed) : Bool :=
  decide (y.2.amplitude.toNat < x.2.amplitude.toNat) ||
    (decide (x.2.amplitude = y.2.amplitude) &&
      (decide (x.2.width.toNat < y.2.width.toNat) ||
        (decide (x.2.width = y.2.width) &&
          match tie with
          | .near => decide (x.2.range < y.2.range)
          | .far => decide (y.2.range < x.2.range))))

/-- R89: the strongest member: test 4 keeps the first of equals under NEAR and the last under FAR. -/
def strongest (tie : TiePref) : List Placed → Option Placed
  | [] => none
  | x :: rest =>
    match strongest tie rest with
    | none => some x
    | some y =>
      match tie with
      | .near => if strongerThan tie y x then some y else some x
      | .far => if strongerThan tie x y then some x else some y

/-- R86 to R89: the echoes a pulse's policy chooses from its acceptable set. -/
def chooseEchoes (p : PolicyEntry) (a : List Placed) : List Placed :=
  match p.policy with
  | .all => chooseAll p.outLimit a
  | .first => a.head?.toList
  | .last => a.getLast?.toList
  | .firstLast => if a.length ≤ 1 then a else a.head?.toList ++ a.getLast?.toList
  | .strongest => (strongest p.tiePref a).toList

/-- R93, R94: what every record of a pulse carries. -/
def Pulse.baseRecord (p : Pulse) (evicted trimmed : Bool) (count : Nat) : PointRecord where
  seq := p.seq
  tFire := p.tFire
  elevation := p.elevation
  azimuth := p.azimuth
  facet := p.facet
  sweep := p.sweep.setWidth 16
  echoIndex := 0
  echoCount := count
  zone := 0
  echo := none
  colour := p.colour
  trimmed := trimmed
  echoOverflow := p.echoOverflow
  evicted := evicted
  elevHeld := p.elevHeld
  azHeld := p.azHeld
  mark := false

/-- R91, R93: the record of one chosen echo. -/
def PointRecord.ofEcho (base : PointRecord) (x : Placed) : PointRecord :=
  { base with
    echoIndex := x.1
    zone := x.2.zone
    echo := some { range := x.2.range, amplitude := x.2.amplitude, width := x.2.width } }

/-- R83, items 2 to 4, and R92: the records a closed pulse yields, in order. -/
def pulseRecords (policy : PolicyEntry) (p : Pulse) (evicted : Bool) : List PointRecord :=
  let a := withPositions (acceptableSet policy p.echoes)
  if a.isEmpty then
    if policy.missReport then [p.baseRecord evicted false 0] else []
  else
    let chosen := chooseEchoes policy a
    let base := p.baseRecord evicted (decide (chosen.length < a.length)) a.length
    chosen.map base.ofEcho

/-- R97: the sweep test of a handled pulse. -/
def State.sweepTest (s : State) (p : Pulse) : State :=
  if s.ptf.lastSweep = some p.sweep then s
  else
    ((s.offerMarker (.swp p.sweep p.seq p.facet)).sweepChange).onPtf fun _ => { lastSweep := some p.sweep }

/-- R99, R100: the records pass one at a time, in order. -/
def passRecords : List PointRecord → State → State
  | [], s => s
  | r :: rest, s => passRecords rest (s.passRecord r)

/-- R83: the handling of a closed pulse. -/
def State.formPoints (s : State) (p : Pulse) (evicted : Bool) : State :=
  let s1 := (s.sweepTest p).pipelineRequest
  passRecords (pulseRecords (s1.bankFor p).policy p evicted) s1

end Sys2Proof.Machine
end

