-- ==== Sys2Proof/Machine/Queue.lean ====
section
/-! DEFINITION. The Emission Queue (chapter 3): entry to STOPPED, closing, eviction, resync and the run state. -/

namespace Sys2Proof.Machine

/-- R43: an entry to STOPPED other than by a reset: STREAM_STOPPED, then the Table Store, the Trigger Unit and the framer. -/
def State.enterStopped (s : State) : State :=
  ((((s.onEmq fun q => { q with run := .stopped }).raise .streamStopped).stoppedSwitch).captureAtStop).closeBatch

/-- R43: in DRAINING an empty queue ends the run. -/
def State.drainTest (s : State) : State :=
  if s.emq.run = .draining ∧ s.emq.queue = [] then s.enterStopped else s

/-- R49: the head pulse is closed, by listen time or by eviction. -/
def State.closeHead (s : State) (evicted : Bool) : State :=
  match s.emq.queue with
  | [] => s
  | p :: rest =>
    let s1 := s.onEmq fun q => { q with queue := rest }
    let s2 := s1.formPoints p evicted
    let s3 := s2.onEca fun e => { e with free := e.free + p.echoes.length }
    let s4 := s3.onEmq fun q => { q with closed := q.closed + 1, lastClosed := some p.seq }
    s4.drainTest

/-- R48: whether a pulse's age in stream time exceeds ListenTicks of its generation. -/
def State.expired (s : State) (p : Pulse) : Bool :=
  match s.hlr.streamTime with
  | some now => decide ((s.bankFor p).listenTicks < (now - p.tFire).toNat)
  | none => false

/-- R48: close expired pulses from the head, at most `fuel` of them; each head examined reads its ListenTicks. -/
def closeExpired : Nat → State → State
  | 0, s => s
  | fuel + 1, s =>
    match s.emq.queue with
    | [] => s
    | p :: _ =>
      let s1 := s.pipelineRequest
      if s1.expired p then closeExpired fuel (s1.closeHead false) else s1

/-- R48, R9: the closing an advance of stream time causes. -/
def State.closing (s : State) : State := closeExpired s.emq.queue.length s

/-- R46: the head is evicted from a full queue. Whether QUEUE_EVICT stands before the frames of the close are admitted is
free (R169, log entry 5); it stands after in either case. -/
def State.evictHead (s : State) : State :=
  let s1 := if Config.evictEventFirst s.freeCount then s.raise .queueEvict else s
  let s2 := (s1.drawFree.closeHead true).raise .queueEvict
  s2.onEmq fun q => { q with evicted := satSucc 65535 q.evicted }

/-- The echo entries that the open pulses hold. -/
def heldEchoes (queue : List Pulse) : Nat := (queue.map fun p => p.echoes.length).sum

/-- R52: the run state that ends a resync; DRAINING becomes STOPPED with the effects of R43. -/
def State.endResync (s : State) (reason : ResyncReason) : State :=
  match s.emq.run with
  | .running =>
    match reason with
    | .command => s
    | .timeJump => s
    | .mirrorRefLost => s.onEmq fun q => { q with run := .waiting }
    | .azRefLost => s.onEmq fun q => { q with run := .waiting }
    | .linkLost => s.onEmq fun q => { q with run := .waiting }
  | .draining => s.enterStopped
  | .stopped => s
  | .waiting => s

/-- R51, R53: a resync in RUNNING or DRAINING; R55: its form in STOPPED and WAITING, which flushes an empty queue and leaves
the run state. -/
def State.doResync (s : State) (reason : ResyncReason) : State :=
  let removed := s.emq.queue
  let s1 := s.onEmq fun q =>
    { q with queue := [], flushed := q.flushed + BitVec.ofNat 32 removed.length, lastResync := some reason }
  let s2 := s1.onEca fun e => { e with free := e.free + heldEchoes removed, zoneTrack := Eca.zeroTrack }
  let s3 := s2.raise .resync
  let s4 := s3.offerMarker (.rsy reason removed.length s3.emq.lastClosed)
  s4.endResync reason

/-- R4, R11, R21, R24: a resync is asked for in RUNNING and DRAINING only. -/
def State.askResync (s : State) (reason : ResyncReason) : State :=
  match s.emq.run with
  | .running => s.doResync reason
  | .draining => s.doResync reason
  | .stopped => s
  | .waiting => s

/-- R41: the tables that must be VALID. -/
def Tbs.requiredValid (t : Tbs) : Bool :=
  [TableId.rangeConst, .walk, .zonePlan, .echoPolicy, .elevCorr, .azCorr, .facet].all fun id =>
    decide (t.activeStatus.get id = .valid)

/-- R41: both channels TRACKING and the seven tables VALID. -/
def State.startConditions (s : State) : Bool :=
  decide (s.ant.mirror.state = .tracking) && decide (s.ant.azimuth.state = .tracking) && s.tbs.requiredValid

/-- R41: the move from WAITING to RUNNING, when the conditions hold. -/
def State.tryStart (s : State) : State :=
  if s.emq.run = .waiting ∧ s.startConditions = true then
    ((s.onEmq fun q => { q with run := .running }).raise .streamStarted).noticeSeek
  else s

end Sys2Proof.Machine
end

