-- ==== Sys2Proof/Machine/Angles.lean ====
section
/-! DEFINITION. The Angle Tracker (chapter 2): index records, samples, angles, facets and sweep boundaries. -/

namespace Sys2Proof.Machine

/-! ### One channel (section 2.3) -/

/-- R17: the significant part of a raw count. -/
def significant (bits : Nat) (raw : RawCount) : Nat := raw.toNat % 2 ^ bits

/-- What the handling of a sample raises (R24). -/
inductive SampleEvent where
  | quiet
  | hold
  | fault
  deriving DecidableEq, Repr

/-- R20, R21: a channel at an index that sets its reference. The last valid count, step and count used are left as they are
and are not read before the next samples write them (log entry 16). -/
def Channel.restart (c : Channel) (count : Nat) : Channel :=
  { c with state := .acquiring, ref := count, samples := 0, rejectRun := 0, goodRun := 0 }

/-- R21: whether an index count lies beyond the margin of the reference. -/
def Channel.slips (c : Channel) (bits margin count : Nat) : Bool :=
  decide (margin < (signedMod bits ((count : Int) - (c.ref : Int))).natAbs)

/-- R20, R21: an INDEX at a channel: the channel after, and whether the index slipped. -/
def Channel.atIndex (c : Channel) (bits margin count : Nat) : Channel × Bool :=
  match c.state with
  | .unlocked => (c.restart count, false)
  | .acquiring => if c.slips bits margin count then (c.restart count, true) else (c, false)
  | .tracking => if c.slips bits margin count then (c.restart count, true) else (c, false)
  | .holding => if c.slips bits margin count then (c.restart count, true) else (c, false)
  | .fault => if c.slips bits margin count then (c.restart count, true) else (c, false)

/-- R23: the predicted count. -/
def Channel.predicted (c : Channel) (bits : Nat) : Nat :=
  (((c.last : Int) + c.step * ((c.rejectRun : Int) + 1)) % (2 ^ bits : Int)).toNat

/-- R23: whether a sample lies within the limit of the prediction. -/
def Channel.accepts (c : Channel) (bits limit x : Nat) : Bool :=
  decide ((signedMod bits ((x : Int) - (c.predicted bits : Int))).natAbs ≤ limit)

/-- R23: the update of a valid sample. -/
def Channel.takeValid (c : Channel) (bits x : Nat) : Channel :=
  { c with
    step := signedMod bits ((x : Int) - (c.last : Int)) / ((c.rejectRun : Int) + 1)
    last := x
    rejectRun := 0
    used := x }

/-- R24, R25: the update of a rejected sample. -/
def Channel.takeRejected (c : Channel) (bits : Nat) : Channel :=
  { c with rejectRun := satSucc 255 c.rejectRun, used := c.predicted bits }

/-- R22: a sample in ACQUIRING. -/
def Channel.acquire (c : Channel) (bits x : Nat) : Channel :=
  if c.samples = 0 then { c with last := x, samples := 1, used := x }
  else
    { c with
      state := .tracking
      step := signedMod bits ((x : Int) - (c.last : Int))
      last := x
      rejectRun := 0
      used := x }

/-- R22 to R25: a FIRE's sample at a channel. -/
def Channel.sample (c : Channel) (bits limit x : Nat) : Channel × SampleEvent :=
  match c.state with
  | .unlocked => (c, .quiet)
  | .acquiring => (c.acquire bits x, .quiet)
  | .tracking =>
    if c.accepts bits limit x then (c.takeValid bits x, .quiet)
    else ({ c.takeRejected bits with state := .holding }, .hold)
  | .holding =>
    if c.accepts bits limit x then ({ c.takeValid bits x with state := .tracking }, .quiet)
    else if c.rejectRun + 1 < 8 then (c.takeRejected bits, .quiet)
    else ({ c.takeRejected bits with state := .fault, goodRun := 0 }, .fault)
  | .fault =>
    if c.accepts bits limit x then
      if c.goodRun + 1 < 4 then ({ c.takeValid bits x with goodRun := c.goodRun + 1 }, .quiet)
      else ({ c.takeValid bits x with state := .tracking, goodRun := 0 }, .quiet)
    else ({ c.takeRejected bits with goodRun := 0 }, .quiet)

/-! ### The two channels of the part -/

/-- The channel a record names. -/
def Ant.channel (a : Ant) : ChannelId → Channel
  | .mirror => a.mirror
  | .azimuth => a.azimuth

/-- Replace a channel. -/
def Ant.setChannel (a : Ant) (id : ChannelId) (c : Channel) : Ant :=
  match id with
  | .mirror => { a with mirror := c }
  | .azimuth => { a with azimuth := c }

/-- MirrorBits or AzBits. -/
def Params.bits (p : Params) : ChannelId → Nat
  | .mirror => p.mirrorBits
  | .azimuth => p.azBits

/-- MirrorVarLimit or AzVarLimit. -/
def Params.limit (p : Params) : ChannelId → Nat
  | .mirror => p.mirrorVarLimit
  | .azimuth => p.azVarLimit

/-- MirrorIndexMargin or AzIndexMargin. -/
def Params.margin (p : Params) : ChannelId → Nat
  | .mirror => p.mirrorIndexMargin
  | .azimuth => p.azIndexMargin

/-- The resync reason of a channel (R21, R24). -/
def refLost : ChannelId → ResyncReason
  | .mirror => .mirrorRefLost
  | .azimuth => .azRefLost

/-- MIRROR_HOLD or AZ_HOLD (R24). -/
def holdEvent : ChannelId → Event
  | .mirror => .mirrorHold
  | .azimuth => .azHold

/-- R20, R21: an INDEX at the tracker. -/
def State.handleIndex (s : State) (id : ChannelId) (raw : RawCount) : State :=
  let r := (s.ant.channel id).atIndex (s.params.bits id) (s.params.margin id) (significant (s.params.bits id) raw)
  let s1 := s.onAnt fun a => a.setChannel id r.1
  if r.2 then (s1.raise .indexSlip).askResync (refLost id) else s1

/-- R22 to R25: one sample of a FIRE, with the event and the resync it asks for. -/
def State.handleSample (s : State) (id : ChannelId) (raw : RawCount) : State :=
  let r := (s.ant.channel id).sample (s.params.bits id) (s.params.limit id) (significant (s.params.bits id) raw)
  let s1 := s.onAnt fun a => a.setChannel id r.1
  match r.2 with
  | .quiet => s1
  | .hold => s1.raise (holdEvent id)
  | .fault => (s1.raise .angleFault).askResync (refLost id)

/-! ### Angles (section 2.4) -/

/-- R27: the raw angle of a channel's count used, 0..2^24 − 1. -/
def Channel.rawAngle (c : Channel) (bits : Nat) : Nat :=
  (((c.used : Int) - (c.ref : Int)) % (2 ^ bits : Int)).toNat * 2 ^ (24 - bits)

/-- R28: the interpolated correction of a raw angle. -/
def correction (table : List Int) (r : Nat) : Int :=
  let i := r / 65536
  let f := r % 65536
  let e0 := table.getD i 0
  let e1 := table.getD ((i + 1) % 256) 0
  e0 + ((e1 - e0) * (f : Int) + 32768) / 65536

/-- R28: the corrected angle, modulo 2^24. -/
def correctedAngle (table : List Int) (r : Nat) : Nat :=
  (((r : Int) + correction table r) % (2 ^ 24 : Int)).toNat

/-- R29: the facet span. -/
def facetSpan (facets : Nat) : Nat := 2 ^ 24 / facets

/-- A value clamped to a range. -/
def clampInt (lo hi v : Int) : Int := max lo (min hi v)

/-- R30: the elevation of a mirror angle, saturated. -/
def elevationOf (facets deflection : Nat) (offset : Int) (mirrorAngle : Nat) : Int :=
  let span := facetSpan facets
  let phase := mirrorAngle % span
  clampInt (-(2 ^ 23)) (2 ^ 23 - 1) ((deflection : Int) * ((phase : Int) - (span / 2 : Nat)) + offset)

/-- R31: the azimuth of a corrected angle. -/
def azimuthOf (sign : Sign) (angle : Nat) : Azimuth :=
  match sign with
  | .plus => BitVec.ofNat 24 angle
  | .minus => -(BitVec.ofNat 24 angle)

/-- What the mirror channel forms for a FIRE (R29, R30, R35). -/
structure MirrorAngles where
  facet : Nat
  elevation : Int
  enable : Bool
  deriving DecidableEq, Repr

/-- R27, R29, R30: the facet, elevation and enable; none while the mirror channel is UNLOCKED. -/
def mirrorAngles (b : Bank) (p : Params) (c : Channel) : Option MirrorAngles :=
  if c.state = .unlocked then none
  else
    let angle := correctedAngle b.elevCorr (c.rawAngle p.mirrorBits)
    let facet := angle / facetSpan p.facets
    let e : FacetEntry := b.entry .facet facet
    some { facet := facet, elevation := elevationOf p.facets p.deflection e.offset angle, enable := e.enable }

/-- R27, R31: the azimuth; none while the azimuth channel is UNLOCKED. -/
def azimuthAngle (b : Bank) (p : Params) (c : Channel) : Option Azimuth :=
  if c.state = .unlocked then none
  else some (azimuthOf p.azSign (correctedAngle b.azCorr (c.rawAngle p.azBits)))

/-- What the tracker hands on with a FIRE, beside the channel states and sweep number that State holds (R32). -/
structure Handoff where
  mirror : Option MirrorAngles
  azimuth : Option Azimuth
  boundary : Bool
  deriving DecidableEq, Repr

/-- R33: whether a formed facet makes a sweep boundary. -/
def isBoundary (lastFacet facet : Option Nat) : Bool :=
  match lastFacet, facet with
  | some l, some f => decide (l ≠ f)
  | _, _ => false

/-- R33: the tracker's facet and sweep number after a FIRE. -/
def Ant.countSweep (a : Ant) (facet : Option Nat) : Ant :=
  match facet with
  | none => a
  | some f =>
    { a with
      lastFacet := some f
      sweep := if isBoundary a.lastFacet facet then a.sweep + 1 else a.sweep }

/-- The port requests the tracker makes for a FIRE (log entry 12): two entries of each correction table and one of FACET,
for the channels that form an angle. -/
def trackerRequests (a : Ant) : Nat :=
  (if a.mirror.state = .unlocked then 0 else 3) + if a.azimuth.state = .unlocked then 0 else 2

/-- R14, R26, R27 to R33: the tracker's work on a FIRE. The tables are those ACTIVE when the FIRE reaches the tracker
(section 2.4, R35; log entry 14). -/
def State.track (s : State) (mirrorRaw azRaw : RawCount) : State × Handoff :=
  let tables := s.tbs.bankActive
  let s1 := State.pipelineRequests (trackerRequests s.ant) s
  let s2 := (s1.handleSample .mirror mirrorRaw).handleSample .azimuth azRaw
  let m := mirrorAngles tables s2.params s2.ant.mirror
  let facet := m.map MirrorAngles.facet
  (s2.onAnt fun a => a.countSweep facet,
    { mirror := m
      azimuth := azimuthAngle tables s2.params s2.ant.azimuth
      boundary := isBoundary s2.ant.lastFacet facet })

end Sys2Proof.Machine
end

