-- ==== Sys2Proof/Machine/Operands.lean ====
section
/-! DEFINITION. The operand forms of the commands (sections 10.6, 11.4, 11.5): table entries with their clamps, parameters,
trigger configurations, protection words. -/

namespace Sys2Proof.Machine

/-! ### Numbers -/

/-- A number clamped to a range (00_scope, "clamped"). -/
def clampNat (lo hi v : Nat) : Nat := max lo (min hi v)

/-- The number that `n` bytes from place `i` spell. -/
def fieldAt (bs : List Byte) (i n : Nat) : Nat := beNat ((bs.drop i).take n)

/-- The signed number that `n` bytes from place `i` spell. -/
def signedAt (bs : List Byte) (i n : Nat) : Int := signedMod (8 * n) (fieldAt bs i n)

/-- An enumerated byte that takes 00h and 01h alone (R203). -/
def flagOf : Nat → Option Bool
  | 0 => some false
  | 1 => some true
  | _ => none

/-- The largest range (00_scope, Range). -/
def maxRange : Nat := 2 ^ 28 - 1

/-! ### Table entries (section 11.5, R108, R203) -/

/-- The ZONE_PLAN policy a code names. -/
def zonePolicyOf : Nat → Option ZonePolicy
  | 0 => some .nearest
  | 1 => some .farthest
  | 2 => some .track
  | 3 => some .discard
  | _ => none

/-- The ECHO_POLICY policy a code names. -/
def outputPolicyOf : Nat → Option OutputPolicy
  | 0 => some .all
  | 1 => some .first
  | 2 => some .last
  | 3 => some .strongest
  | 4 => some .firstLast
  | _ => none

/-- The TiePref a code names. -/
def tiePrefOf : Nat → Option TiePref
  | 0 => some .near
  | 1 => some .far
  | _ => none

/-- R108: a RANGE_CONST word clamped to the range of the entry it lands in: Z0 as a signed value, the others unsigned. -/
def clampRangeWord (i w : Nat) : BitVec 32 :=
  match i with
  | 0 => BitVec.ofNat 32 (clampNat 1400000 1700000 w)
  | 1 => BitVec.ofInt 32 (clampInt (-32768) 32767 (signedMod 32 w))
  | 2 => BitVec.ofNat 32 (clampNat 0 maxRange w)
  | 3 => BitVec.ofNat 32 (clampNat 0 maxRange w)
  | _ => BitVec.ofNat 32 (clampNat 1 (2 ^ 23) w)

/-- An entry read from its bytes, with whether a field was clamped. -/
abbrev ReadEntry (t : TableId) := EntryOf t × Bool

/-- A ZONE_PLAN entry (10 bytes). -/
def readZone (bs : List Byte) : Option (ZoneEntry × Bool) :=
  let rmin := fieldAt bs 0 4
  let rmax := fieldAt bs 4 4
  let maxZone := fieldAt bs 8 1
  (zonePolicyOf (fieldAt bs 9 1)).map fun policy =>
    (⟨clampNat 0 maxRange rmin, clampNat 0 maxRange rmax, clampNat 0 127 maxZone, policy⟩,
      decide (maxRange < rmin ∨ maxRange < rmax ∨ 127 < maxZone))

/-- An ECHO_POLICY entry (11 bytes). -/
def readPolicy (bs : List Byte) : Option (PolicyEntry × Bool) :=
  let outMax := fieldAt bs 1 1
  let maxEchoes := fieldAt bs 2 1
  let ampMin := fieldAt bs 3 2
  let widthMin := fieldAt bs 5 2
  let widthMax := fieldAt bs 7 2
  match outputPolicyOf (fieldAt bs 0 1), tiePrefOf (fieldAt bs 9 1), flagOf (fieldAt bs 10 1) with
  | some policy, some tie, some miss =>
    let e : PolicyEntry :=
      ⟨policy, clampNat 1 8 outMax, clampNat 1 8 maxEchoes, clampNat 0 4095 ampMin, clampNat 0 1023 widthMin,
        clampNat 0 1023 widthMax, tie, miss⟩
    some (e, decide (e.outMax ≠ outMax ∨ e.maxEchoes ≠ maxEchoes ∨ e.ampMin ≠ ampMin ∨ e.widthMin ≠ widthMin ∨
      e.widthMax ≠ widthMax))
  | _, _, _ => none

/-- A FACET entry (3 bytes). -/
def readFacet (bs : List Byte) : Option (FacetEntry × Bool) :=
  (flagOf (fieldAt bs 2 1)).map fun enable => (⟨signedAt bs 0 2, enable⟩, false)

/-- An EXPOSURE_PLAN entry (14 bytes). -/
def readPlan (bs : List Byte) : Option (PlanEntry × Bool) :=
  let station := fieldAt bs 0 1
  let span := fieldAt bs 4 3
  (flagOf (fieldAt bs 13 1)).map fun enable =>
    (⟨clampNat 0 254 station, BitVec.ofNat 24 (fieldAt bs 1 3), clampNat 1 (2 ^ 22) span, signedAt bs 7 3, signedAt bs 10 3,
        enable⟩,
      decide (254 < station ∨ span = 0 ∨ 2 ^ 22 < span))

/-- One carried entry that lands in entry `i`; none when an enumerated field is outside its list (R106, test 7). -/
def readEntry : (t : TableId) → (i : Nat) → List Byte → Option (ReadEntry t)
  | .rangeConst, i, bs =>
    let w := fieldAt bs 0 4
    some (clampRangeWord i w, decide (clampRangeWord i w ≠ BitVec.ofNat 32 w))
  | .walk, _, bs => some (signedAt bs 0 2, false)
  | .zonePlan, _, bs => readZone bs
  | .echoPolicy, _, bs => readPolicy bs
  | .elevCorr, _, bs => some (signedAt bs 0 2, false)
  | .azCorr, _, bs => some (signedAt bs 0 2, false)
  | .facet, _, bs => readFacet bs
  | .exposurePlan, _, bs => readPlan bs

/-- The carried entries from carried place `k` on, each with the entry it lands in (R107); none when one is refused. -/
def readEntries (t : TableId) (start : Nat) : (n k : Nat) → List Byte → Option (List (Nat × ReadEntry t))
  | 0, _, _ => some []
  | n + 1, k, bs =>
    let i := segmentIndex t start k
    match readEntry t i (bs.take t.entryLength), readEntries t start n (k + 1) (bs.drop t.entryLength) with
    | some e, some rest => some ((i, e) :: rest)
    | _, _ => none

/-- R109, R107: the entries written in carried order, so that the last value carried for an entry stands. -/
def writeEntries {t : TableId} (content : List (EntryOf t)) : List (Nat × ReadEntry t) → List (EntryOf t)
  | [] => content
  | (i, e) :: rest => writeEntries (content.set i e.1) rest

/-- R108: the number of carried entries in which a field was clamped. -/
def clampCount {t : TableId} (es : List (Nat × ReadEntry t)) : Nat := (es.filter fun x => x.2.2).length

/-! ### Commit checks (R110) -/

/-- The index of the first entry that fails, from entry `i` on. -/
def firstFailure {α : Type} (bad : α → Bool) : Nat → List α → Option Nat
  | _, [] => none
  | i, x :: rest => if bad x then some i else firstFailure bad (i + 1) rest

/-- R110: a target at or below that of the nearest earlier enabled entry, compared as plain numbers. -/
def notAbove (prev : Option Azimuth) (target : Azimuth) : Bool :=
  match prev with
  | some p => decide (target.toNat ≤ p.toNat)
  | none => false

/-- R110: the first enabled plan entry that fails, after an enabled entry of target `prev`. -/
def planFailure : Nat → Option Azimuth → List PlanEntry → Option Nat
  | _, _, [] => none
  | i, prev, e :: rest =>
    if e.enable then
      if decide (e.elHi ≤ e.elLo) || notAbove prev e.target then some i
      else planFailure (i + 1) (some e.target) rest
    else planFailure (i + 1) prev rest

/-- R110: the commit check of a table's STAGED content; the entry index of the first failure. -/
def commitFailure (b : Bank) : TableId → Option Nat
  | .rangeConst => if b.globalRmax < b.globalRmin then some 2 else none
  | .zonePlan => firstFailure (fun z => decide (z.rmax < z.rmin)) 0 b.zonePlan
  | .echoPolicy => if b.policy.widthMax < b.policy.widthMin then some 0 else none
  | .exposurePlan => planFailure 0 none b.exposurePlan
  | .walk => none
  | .elevCorr => none
  | .azCorr => none
  | .facet => none

/-! ### Parameters (section 10.6) -/

/-- AzSign's code: 0 for +1, 1 for −1. -/
def Sign.code : Sign → Nat
  | .plus => 0
  | .minus => 1

/-- The sign a code names. -/
def signOf : Nat → Option Sign
  | 0 => some .plus
  | 1 => some .minus
  | _ => none

/-- AlertPol's code: 0 HIGH, 1 LOW. -/
def Polarity.code : Polarity → Nat
  | .high => 0
  | .low => 1

/-- The polarity a code names. -/
def polarityOf : Nat → Option Polarity
  | 0 => some .high
  | 1 => some .low
  | _ => none

/-- A set of event ids; none when the word names an id above 23 (R181). -/
def eventSetOf (w : Nat) : Option EventSet := if w < 2 ^ 24 then some (BitVec.ofNat 24 w) else none

/-- A StatusSelect value (R181): 0..23 or 31. -/
def selectOf (w : Nat) : Option Nat := if w ≤ 23 ∨ w = 31 then some w else none

/-- The parameter of an id as held (R192); none for an id that names no parameter. -/
def Params.value (p : Params) : Nat → Option Nat
  | 0 => some p.mirrorBits
  | 1 => some p.azBits
  | 2 => some p.mirrorVarLimit
  | 3 => some p.azVarLimit
  | 4 => some p.mirrorIndexMargin
  | 5 => some p.azIndexMargin
  | 6 => some p.facets
  | 7 => some p.deflection
  | 8 => some p.azSign.code
  | 9 => some p.camEnable.toNat
  | 10 => some p.camLead
  | 11 => some p.timeSlack
  | 12 => some p.batchFlush
  | 13 => some (p.statusSelect.getD 0 31)
  | 14 => some (p.statusSelect.getD 1 31)
  | 15 => some (p.statusSelect.getD 2 31)
  | 16 => some (p.statusSelect.getD 3 31)
  | 17 => some (p.statusSelect.getD 4 31)
  | 18 => some (p.statusSelect.getD 5 31)
  | 19 => some (p.statusSelect.getD 6 31)
  | 20 => some (p.statusSelect.getD 7 31)
  | 21 => some p.alertMaskA.toNat
  | 22 => some p.alertMaskB.toNat
  | 23 => some p.alertPolA.code
  | 24 => some p.alertPolB.code
  | 25 => some p.keepMask.toNat
  | _ => none

/-- A StatusSelect entry written. -/
def Params.setSelect (p : Params) (n w : Nat) : Option Params :=
  (selectOf w).map fun id => { p with statusSelect := p.statusSelect.set n id }

/-- R191, checks 4 and 5, and the clamps: the parameters after a write; none when it is refused with BAD_ARGUMENT. -/
def Params.write (p : Params) (id w : Nat) : Option Params :=
  match id with
  | 0 => some { p with mirrorBits := clampNat 12 20 w }
  | 1 => some { p with azBits := clampNat 16 24 w }
  | 2 => some { p with mirrorVarLimit := clampNat 1 65535 w }
  | 3 => some { p with azVarLimit := clampNat 1 65535 w }
  | 4 => some { p with mirrorIndexMargin := clampNat 0 255 w }
  | 5 => some { p with azIndexMargin := clampNat 0 255 w }
  | 6 =>
    if (w = 1 ∨ w = 2 ∨ w = 4 ∨ w = 8) ∧ ¬(w = 1 ∧ p.deflection = 2) then some { p with facets := w } else none
  | 7 =>
    if (w = 1 ∨ w = 2) ∧ ¬(w = 2 ∧ p.facets = 1) then some { p with deflection := w } else none
  | 8 => (signOf w).map fun sign => { p with azSign := sign }
  | 9 => (flagOf w).map fun on => { p with camEnable := on }
  | 10 => some { p with camLead := clampNat 0 (2 ^ 23) w }
  | 11 => some { p with timeSlack := clampNat 0 4095 w }
  | 12 => some { p with batchFlush := clampNat 1 (2 ^ 32 - 1) w }
  | 13 => p.setSelect 0 w
  | 14 => p.setSelect 1 w
  | 15 => p.setSelect 2 w
  | 16 => p.setSelect 3 w
  | 17 => p.setSelect 4 w
  | 18 => p.setSelect 5 w
  | 19 => p.setSelect 6 w
  | 20 => p.setSelect 7 w
  | 21 => (eventSetOf w).map fun m => { p with alertMaskA := m }
  | 22 => (eventSetOf w).map fun m => { p with alertMaskB := m }
  | 23 => (polarityOf w).map fun x => { p with alertPolA := x }
  | 24 => (polarityOf w).map fun x => { p with alertPolB := x }
  | 25 => (eventSetOf w).map fun m => { p with keepMask := m }
  | _ => none

/-- Section 10.6, "Written in STOPPED". -/
def writtenInStoppedOnly (id : Nat) : Bool := decide (id ≤ 10)

/-- R191, check 2: CamEnable and CamLead on a P4M. -/
def paramAbsent (variant : Variant) (id : Nat) : Bool := decide (variant = .p4m ∧ (id = 9 ∨ id = 10))

/-- R19: the tracker after a taken write: a differing width unlocks its channel and drops its counts (log entry 17); a
differing Facets unsets the last facet. -/
def Ant.afterWrite (a : Ant) (old new : Params) : Ant where
  mirror := if old.mirrorBits = new.mirrorBits then a.mirror else Channel.initial
  azimuth := if old.azBits = new.azBits then a.azimuth else Channel.initial
  lastFacet := if old.facets = new.facets then a.lastFacet else none
  sweep := a.sweep

/-! ### Trigger configurations (section 11.4, R152) -/

/-- A condition read from its 13 bytes, clamped. -/
def readCondition (bs : List Byte) : Condition where
  rangeLo := clampNat 0 maxRange (fieldAt bs 0 4)
  rangeHi := clampNat 0 maxRange (fieldAt bs 4 4)
  amplitudeMin := clampNat 0 4095 (fieldAt bs 8 2)
  flagMask := byte (fieldAt bs 10 1)
  flagValue := byte (fieldAt bs 11 1)
  echoIndex := fieldAt bs 12 1

/-- R152: whether a clamped condition is refused: its echo index exceeds 8, or its range lo exceeds its range hi. -/
def Condition.refused (c : Condition) : Bool := decide (8 < c.echoIndex ∨ c.rangeHi < c.rangeLo)

/-- The trigger mode a code names. -/
def triggerModeOf : Nat → Option TriggerMode
  | 0 => some .one
  | 1 => some .two
  | _ => none

/-- R152: a configuration read from the 32 argument bytes; none when it is refused with BAD_ARGUMENT. -/
def readTrigger (bs : List Byte) : Option TriggerConfig :=
  let a := readCondition (bs.drop 6)
  let b := readCondition (bs.drop 19)
  let resp := fieldAt bs 1 1
  match triggerModeOf (fieldAt bs 0 1), flagOf (fieldAt bs 3 1) with
  | some mode, some rearm =>
    if a.refused || b.refused then none
    else
      some
        { mode := mode
          condA := a
          condB := b
          l2Window := clampNat 1 65535 (fieldAt bs 4 2)
          respMark := resp.testBit 0
          respCapture := resp.testBit 1
          respAlert := resp.testBit 2
          markCount := clampNat 0 255 (fieldAt bs 2 1)
          rearm := rearm }
  | _, _ => none

/-! ### Protection words (R124) -/

/-- The protection mode a code names. -/
def protectModeOf : Nat → Option ProtectMode
  | 0 => some .openMode
  | 1 => some .line
  | 2 => some .frozen
  | _ => none

/-- R124: the word and mode of the 4 argument bytes; none when refused with BAD_ARGUMENT. -/
def readProtection (bs : List Byte) : Option Protection :=
  match flagOf (fieldAt bs 2 1), protectModeOf (fieldAt bs 3 1) with
  | some complement, some mode =>
    if fieldAt bs 0 1 ≤ 7 ∧ fieldAt bs 1 1 ≤ 8 then
      some { firstTable := fieldAt bs 0 1, count := fieldAt bs 1 1, complement := complement, mode := mode }
    else none
  | _, _ => none

/-- R124: whether SET_PROTECT is taken under the mode held, with CAL_EN at its level. -/
def ProtectMode.takes (m : ProtectMode) (calEn : Bool) : Bool :=
  match m with
  | .openMode => true
  | .line => calEn
  | .frozen => false

/-- The bank a TABLE_READ's bank byte names (R120). -/
def readBankOf : Nat → Option ReadBank
  | 0 => some .staged
  | 1 => some .active
  | _ => none

/-- The code of a bank (section 11.4). -/
def ReadBank.code : ReadBank → Nat
  | .staged => 0
  | .active => 1

end Sys2Proof.Machine
end

