-- ==== Sys2Proof/Machine/Resets.lean ====
section
/-! DEFINITION. The three kinds of reset, block by block as each chapter gives them. -/

namespace Sys2Proof.Machine

/-- R125: the protection kept by a line reset when its mode is FROZEN. -/
def Protection.afterLineReset (p : Protection) : Protection :=
  if p.mode = .frozen then p else Protection.initial

/-- R16, R36, R68, R69, R102, R125, R150, R167, R182, R183, R199: a line reset, with RESET_N asserted (R180). The input lines
keep their levels. -/
def State.lineReset (s : State) : State where
  variant := s.variant
  pins := { s.pins with resetHeld := true, camTrig := false }
  params := Params.initial
  hlr := Hlr.initial
  ant := Ant.initial
  emq := Emq.initial
  eca := Eca.initial
  ptf := Ptf.initial
  tbs := { Tbs.initial with protection := s.tbs.protection.afterLineReset }
  exu := Exu.initial
  tru := Tru.initial
  rlf := Rlf.initial
  flags := resetFlags
  cmi := Cmi.initial
  freeCount := s.freeCount
  pending := s.pending

/-- R126: the STAGED status after a soft reset. -/
def StagedStatus.afterSoftReset : StagedStatus → StagedStatus
  | .clean => .clean
  | .dirty => .dirty
  | .pending => .dirty

/-- R126: the Table Store after a soft reset. -/
def Tbs.afterSoftReset (t : Tbs) : Tbs :=
  { t with
    retiring := t.bankActive
    stagedStatus := PerTable.tabulate fun id => (t.stagedStatus.get id).afterSoftReset
    grants := 0 }

/-- R16, R37, R68, R69, R102, R126, R151, R167, R182, R183, R198: a soft reset. The parameters, the tables, the generation,
the protection and the lines stay. -/
def State.softReset (s : State) : State where
  variant := s.variant
  pins := { s.pins with camTrig := false }
  params := s.params
  hlr := Hlr.initial
  ant := Ant.initial
  emq := Emq.initial
  eca := Eca.initial
  ptf := Ptf.initial
  tbs := s.tbs.afterSoftReset
  exu := Exu.initial
  tru := Tru.initial
  rlf := Rlf.initial
  flags := resetFlags
  cmi := Cmi.initial
  freeCount := s.freeCount
  pending := s.pending

end Sys2Proof.Machine
end

