-- ==== Sys2Proof/Machine/Commands.lean ====
section
/-! DEFINITION. The commands (chapter 10): what each does to the state and what its answer carries. -/

namespace Sys2Proof.Machine

/-- What a command leaves and answers: the state after its effects, the result and the answer's body (R188). -/
structure Reply where
  state : State
  result : ResultCode
  body : List Byte
  deriving DecidableEq, Repr

/-- A refusal: nothing changes and the body is empty (R187). -/
def State.refuse (s : State) (result : ResultCode) : Reply := { state := s, result := result, body := [] }

/-- An OK with a body, after the state `s`. -/
def State.accept (s : State) (body : List Byte) : Reply := { state := s, result := .ok, body := body }

/-- R187, check 2, for a command of fixed argument length. -/
def Reply.ofLength (n : Nat) (args : List Byte) (s : State) (k : Reply) : Reply :=
  if args.length = n then k else s.refuse .malformed

/-! ### Reports -/

/-- The variant byte of IDENTIFY (section 11.4). -/
def variantCode : Variant → Nat
  | .p4c => 1
  | .p4m => 2

/-- A capacity the P4M lacks (R189). -/
def onP4c (variant : Variant) (n : Nat) : Nat :=
  match variant with
  | .p4c => n
  | .p4m => 0

/-- R189: the body of IDENTIFY. -/
def identityBody (variant : Variant) : List Byte :=
  beBytes 2 0x4B56 ++ beBytes 2 0x5034 ++ [byte (variantCode variant), Config.revision, byte Config.queueCapacity] ++
    beBytes 2 Config.poolCapacity ++
    [byte Config.sectorCount, byte (7 + onP4c variant 1), byte (onP4c variant Config.exposureCapacity),
      byte (onP4c variant Config.tileCapacity), byte Config.historyCapacity, byte Config.captureCapacity,
      byte Config.commandCapacity] ++
    beBytes 2 Config.bufferCapacity ++ beBytes 2 Config.responseReserve

/-- R189. -/
def cmdIdentify (args : List Byte) (s : State) : Reply :=
  Reply.ofLength 0 args s (s.accept (identityBody s.variant))

/-- R190: the snapshot. -/
def State.statusBody (s : State) : List Byte :=
  [byte s.emq.run.code, byte s.ant.mirror.state.code, byte s.ant.azimuth.state.code, byte s.hlr.link.code,
      s.tbs.generation, byte s.emq.queue.length] ++
    beBytes 2 s.eca.free ++ beBytes 4 s.emq.accepted.toNat ++ beBytes 4 s.emq.closed.toNat ++
    beBytes 4 s.emq.flushed.toNat ++ beBytes 2 s.emq.evicted ++ beBytes 4 s.eca.orphans.toNat ++
    beBytes 4 s.eca.ambiguous.toNat ++ beBytes 2 s.hlr.rejected ++ beBytes 4 s.rlf.dropped ++
    [byte (resyncCode s.emq.lastResync), byte (onP4c s.variant s.exu.queue.length),
      byte (onP4c s.variant s.exu.tiles.length)]

/-- R190. -/
def cmdGetStatus (args : List Byte) (s : State) : Reply := Reply.ofLength 0 args s (s.accept s.statusBody)

/-! ### Events (R178, R179, R196) -/

/-- R178: the flags are reported as they stand, then those outside KeepMask cleared. The flag word has bits 23 to 0 assigned, and
bits 31 to 24 are sent as zero, which is the model's choice (log entry 32). -/
def cmdReadEvents (args : List Byte) (s : State) : Reply :=
  Reply.ofLength 0 args s ((s.setFlags (s.flags &&& s.params.keepMask)).accept (beBytes 4 s.flags.toNat))

/-- R179: the flags the mask names are cleared; a mask that names an id above 23 is refused. -/
def cmdClearEvents (args : List Byte) (s : State) : Reply :=
  Reply.ofLength 4 args s <|
    match eventSetOf (fieldAt args 0 4) with
    | some mask => (s.setFlags (s.flags &&& ~~~mask)).accept []
    | none => s.refuse .badArgument

/-! ### Parameters (R191, R192) -/

/-- The id and value that a SET_PARAM answer carries; the value is zero for an id that names no parameter. -/
def State.paramBody (s : State) (id : Nat) : List Byte := byte id :: beBytes 4 ((s.params.value id).getD 0)

/-- R191: a taken write, with the effects of R19. -/
def State.writeParams (s : State) (new : Params) : State :=
  (s.onAnt fun a => a.afterWrite s.params new).onParams fun _ => new

/-- R191. -/
def cmdSetParam (args : List Byte) (s : State) : Reply :=
  Reply.ofLength 5 args s <|
    let id := fieldAt args 0 1
    let refused (result : ResultCode) : Reply := { state := s, result := result, body := s.paramBody id }
    if (s.params.value id).isNone then refused .badArgument
    else if paramAbsent s.variant id then refused .notSupported
    else if writtenInStoppedOnly id ∧ s.emq.run ≠ .stopped then refused .wrongState
    else
      match s.params.write id (fieldAt args 1 4) with
      | none => refused .badArgument
      | some new => (s.writeParams new).accept ((s.writeParams new).paramBody id)

/-- R192. -/
def cmdGetParam (args : List Byte) (s : State) : Reply :=
  Reply.ofLength 1 args s <|
    let id := fieldAt args 0 1
    if (s.params.value id).isNone then s.refuse .badArgument
    else if paramAbsent s.variant id then s.refuse .notSupported
    else s.accept (s.paramBody id)

/-! ### Tables (chapter 6) -/

/-- R106, R109: a TABLE_WRITE to a table that exists, from its entry bytes on. -/
def State.writeTable (s : State) (t : TableId) (start : Nat) (bytes : List Byte) : Reply :=
  let n := bytes.length / t.entryLength
  if bytes.length % t.entryLength ≠ 0 ∨ n = 0 ∨ 32 < n then s.refuse .malformed
  else if s.tbs.protection.covers t then s.refuse .tableProtected
  else if s.tbs.isPending t then s.refuse .busy
  else if t.entries ≤ start then s.refuse .badArgument
  else
    match readEntries t start n 0 bytes with
    | none => s.refuse .badArgument
    | some es =>
      let written := s.onTbs fun b =>
        { b with
          staged := b.staged.setTable t (writeEntries (b.staged.table t) es)
          stagedStatus := b.stagedStatus.set t .dirty }
      written.accept [byte (clampCount es)]

/-- R106. -/
def cmdTableWrite (args : List Byte) (s : State) : Reply :=
  if args.length < 2 then s.refuse .malformed
  else
    match tableOf (fieldAt args 0 1) with
    | none => s.refuse .badArgument
    | some t =>
      if tableAbsent s.variant t then s.refuse .notSupported
      else s.writeTable t (fieldAt args 1 1) (args.drop 2)

/-- R111: a taken commit: PENDING, and a switch at once in STOPPED and WAITING. -/
def State.takeCommit (s : State) (t : TableId) : Reply :=
  let marked := s.onTbs fun b => { b with stagedStatus := b.stagedStatus.set t .pending }
  if s.emq.run = .stopped ∨ s.emq.run = .waiting then
    marked.generationSwitch.accept [marked.generationSwitch.tbs.generation, 0]
  else marked.accept [marked.tbs.generation, 1]

/-- R110: a TABLE_COMMIT of a table that exists. -/
def State.commitTable (s : State) (t : TableId) : Reply :=
  if s.tbs.protection.covers t then s.refuse .tableProtected
  else if s.tbs.isPending t then s.refuse .busy
  else
    match commitFailure s.tbs.staged t with
    | some i => { state := s, result := .badArgument, body := [byte i] }
    | none => s.takeCommit t

/-- R110, R111. -/
def cmdTableCommit (args : List Byte) (s : State) : Reply :=
  Reply.ofLength 1 args s <|
    match tableOf (fieldAt args 0 1) with
    | none => s.refuse .badArgument
    | some t => if tableAbsent s.variant t then s.refuse .notSupported else s.commitTable t

/-- R116: a TABLE_CANCEL of a table that exists. -/
def State.cancelTable (s : State) (t : TableId) : Reply :=
  if s.tbs.protection.covers t then s.refuse .tableProtected
  else if s.tbs.isPending t then
    (s.onTbs fun b => { b with stagedStatus := b.stagedStatus.set t .dirty }).accept []
  else s.accept []

/-- R116. -/
def cmdTableCancel (args : List Byte) (s : State) : Reply :=
  Reply.ofLength 1 args s <|
    match tableOf (fieldAt args 0 1) with
    | none => s.refuse .badArgument
    | some t => if tableAbsent s.variant t then s.refuse .notSupported else s.cancelTable t

/-- R117, R103: the two statuses of a table; EMPTY and CLEAN for table 7 of a P4M. -/
def State.statusBytes (s : State) (t : TableId) : List Byte :=
  if tableAbsent s.variant t then [byte ActiveStatus.empty.code, byte StagedStatus.clean.code]
  else [byte (s.tbs.activeStatus.get t).code, byte (s.tbs.stagedStatus.get t).code]

/-- R117: the protected set, bit n for table n (log entry 18 for table 7 of a P4M). -/
def Protection.setByte (p : Protection) : Byte :=
  byte ((allTables.map fun t => if p.covers t then 2 ^ t.number else 0).sum)

/-- R117. -/
def cmdTableState (args : List Byte) (s : State) : Reply :=
  Reply.ofLength 0 args s <|
    s.accept <|
      [s.tbs.generation] ++ allTables.flatMap s.statusBytes ++
        [byte s.tbs.protection.firstTable, byte s.tbs.protection.count, boolByte s.tbs.protection.complement,
          byte s.tbs.protection.mode.code, s.tbs.protection.setByte, boolByte s.pins.calEn]

/-- R124, R194. -/
def cmdSetProtect (args : List Byte) (s : State) : Reply :=
  Reply.ofLength 4 args s <|
    if s.tbs.protection.mode.takes s.pins.calEn then
      match readProtection args with
      | none => s.refuse .badArgument
      | some p => (s.onTbs fun t => { t with protection := p }).accept []
    else s.refuse .locked

/-- R120, R187: the read a TABLE_READ takes into execution, or the refusal it is answered with. -/
def readRequest (s : State) (tag : Byte) (args : List Byte) : Except ResultCode Reading :=
  if args.length ≠ 4 then .error .malformed
  else
    match tableOf (fieldAt args 0 1) with
    | none => .error .badArgument
    | some t =>
      if tableAbsent s.variant t then .error .notSupported
      else
        match readBankOf (fieldAt args 1 1) with
        | none => .error .badArgument
        | some bank =>
          if fieldAt args 3 1 = 0 ∨ 32 < fieldAt args 3 1 then .error .badArgument
          else if t.entries ≤ fieldAt args 2 1 then .error .badArgument
          else
            .ok
              { tag := tag
                table := t
                bank := bank
                start := fieldAt args 2 1
                count := fieldAt args 3 1
                done := 0
                firstGen := s.tbs.generation
                lastGen := s.tbs.generation
                split := false
                entries := [] }

/-- R121, section 11.4: the body of a finished read. -/
def Reading.body (r : Reading) : List Byte :=
  [byte r.table.number, byte r.bank.code, byte r.start, byte r.count, r.firstGen, r.lastGen, boolByte r.split, 0] ++
    r.entries

/-! ### The run (R40, R42, R55, R195) -/

/-- R40. -/
def cmdStart (args : List Byte) (s : State) : Reply :=
  Reply.ofLength 0 args s <|
    if s.emq.run = .stopped then ((s.onEmq fun q => { q with run := .waiting }).tryStart).accept []
    else s.refuse .wrongState

/-- R42. -/
def cmdStop (args : List Byte) (s : State) : Reply :=
  Reply.ofLength 0 args s <|
    match s.emq.run with
    | .running =>
      if s.emq.queue = [] then s.enterStopped.accept []
      else (s.onEmq fun q => { q with run := .draining }).accept []
    | .waiting => s.enterStopped.accept []
    | .stopped => s.accept []
    | .draining => s.refuse .wrongState

/-- R55. -/
def cmdResync (args : List Byte) (s : State) : Reply :=
  Reply.ofLength 0 args s ((s.doResync .command).accept [])

/-! ### The trigger (R152, R155, R165, R166) -/

/-- R152: a taken TRIGGER_SET; the Capture Buffer and its state stay. -/
def Tru.configure (t : Tru) (c : TriggerConfig) : Tru :=
  { t with
    config := c
    state := .off
    window := 0
    hits := 0
    marks := 0
    alertUnread := false
    history := []
    skipped := false }

/-- R152. -/
def cmdTriggerSet (args : List Byte) (s : State) : Reply :=
  Reply.ofLength 32 args s <|
    match readTrigger args with
    | some c => (s.onTru fun t => t.configure c).accept []
    | none => s.refuse .badArgument

/-- R155. -/
def cmdTriggerArm (args : List Byte) (s : State) : Reply :=
  Reply.ofLength 0 args s <|
    if s.tru.state = .off then (s.onTru fun t => { t with state := .waitL1, window := 0 }).accept []
    else s.refuse .wrongState

/-- R165: the report. Its indications have bit 0 and bit 1 assigned (section 11.4), and the others are sent as zero, which is the
model's choice (log entry 32). -/
def Tru.report (t : Tru) : List Byte :=
  [byte t.state.code, byte t.capState.code, byte t.capture.length, byte (t.alertUnread.toNat + 2 * t.skipped.toNat)] ++
    beBytes 4 t.hits ++ beBytes 4 t.window

/-- R165, R162: the effects of a read: a terminal state returns to OFF, and the two indications clear. -/
def Tru.acknowledge (t : Tru) : Tru :=
  if t.state = .l1Hit ∨ t.state = .l2Hit then
    { t with state := .off, window := 0, history := [], alertUnread := false, skipped := false }
  else { t with alertUnread := false, skipped := false }

/-- R165. -/
def cmdTriggerRead (args : List Byte) (s : State) : Reply :=
  Reply.ofLength 0 args s ((s.onTru Tru.acknowledge).accept s.tru.report)

/-- R166: the body of a CAPTURE_READ of a FULL buffer. -/
def Tru.captureBody (t : Tru) : List Byte :=
  [byte t.capture.length, byte t.hitPos, 0, 0] ++ t.capture.flatMap PointRecord.bytes

/-- R166: an emptied Capture Buffer. -/
def Tru.emptyCapture (t : Tru) : Tru := { t with capState := .empty, capture := [], toGo := 0, hitPos := 0 }

/-- R166. -/
def cmdCaptureRead (args : List Byte) (s : State) : Reply :=
  Reply.ofLength 0 args s <|
    match s.tru.capState with
    | .full => (s.onTru Tru.emptyCapture).accept s.tru.captureBody
    | .filling => s.refuse .busy
    | .empty => s.accept [0, 0, 0, 0]

/-! ### Reset (R198) -/

/-- R198: the soft reset of every block; the answer follows it. -/
def cmdReset (args : List Byte) (s : State) : Reply := Reply.ofLength 0 args s (s.softReset.accept [])

end Sys2Proof.Machine
end

