-- ==== Sys2Proof/Machine/Interpreter.lean ====
section
/-! DEFINITION. The Command Interpreter (chapter 10): taking, queueing and answering commands, and the table read in
execution. -/

namespace Sys2Proof.Machine

/-- The answer to a command (R188): its tag, its code, the result and the body. -/
def answerTo (c : Command) (result : ResultCode) (body : List Byte) : Answer where
  tag := c.tag
  code := c.code
  result := result
  body := body

/-- R187, section 11.4: what a command other than TABLE_READ does and answers. -/
def replyTo (c : Command) (s : State) : Reply :=
  match c.code.toNat with
  | 0x01 => cmdIdentify c.args s
  | 0x02 => cmdGetStatus c.args s
  | 0x03 => cmdReadEvents c.args s
  | 0x04 => cmdClearEvents c.args s
  | 0x05 => cmdSetParam c.args s
  | 0x06 => cmdGetParam c.args s
  | 0x07 => cmdTableWrite c.args s
  | 0x09 => cmdTableCommit c.args s
  | 0x0A => cmdTableCancel c.args s
  | 0x0B => cmdTableState c.args s
  | 0x0C => cmdSetProtect c.args s
  | 0x0D => cmdStart c.args s
  | 0x0E => cmdStop c.args s
  | 0x0F => cmdResync c.args s
  | 0x10 => cmdTriggerSet c.args s
  | 0x11 => cmdTriggerArm c.args s
  | 0x12 => cmdTriggerRead c.args s
  | 0x13 => cmdCaptureRead c.args s
  | 0x14 => cmdReset c.args s
  | _ => s.refuse .unknownCommand

/-- The reply is answered when every effect has been made (R188). -/
def Reply.send (r : Reply) (c : Command) : State := r.state.offerAnswer (answerTo c r.result r.body)

/-- R184: a TABLE_READ becomes the command in execution, or is answered at once. -/
def State.takeRead (s : State) (c : Command) : State :=
  match readRequest s c.tag c.args with
  | .ok r => s.onCmi fun m => { m with reading := some r }
  | .error result => (s.refuse result).send c

/-- The code of TABLE_READ. -/
def tableReadCode : Byte := 0x08#8

/-- R184: the interpreter takes a command and executes it. -/
def State.takeCommand (s : State) (c : Command) : State :=
  if c.code = tableReadCode then s.takeRead c else (replyTo c s).send c

/-- R184, R185, R186: a delivered CMD is taken at once; while a read is in execution or queued commands are still to be taken,
it joins the tail of the queue or is answered BUSY. -/
def State.deliverCommand (s : State) (c : Command) : State :=
  match s.cmi.reading, s.cmi.queue with
  | none, [] => s.takeCommand c
  | _, _ =>
    if s.cmi.queue.length < Config.commandCapacity then s.onCmi fun m => { m with queue := m.queue ++ [c] }
    else (s.refuse .busy).send c

/-- R186: at most `fuel` queued commands are taken in arrival order, until a read is in execution or the queue is empty. -/
def drainCommands : Nat → State → State
  | 0, s => s
  | fuel + 1, s =>
    match s.cmi.reading, s.cmi.queue with
    | none, c :: rest => drainCommands fuel ((s.onCmi fun m => { m with queue := rest }).takeCommand c)
    | _, _ => s

/-- R121: the answer of a read. -/
def Reading.answer (r : Reading) : Answer where
  tag := r.tag
  code := tableReadCode
  result := .ok
  body := r.body

/-- R121: a read whose last fetch has been granted is answered. -/
def State.answerRead (s : State) : State :=
  match s.cmi.reading with
  | some r => if r.count ≤ r.done then (s.onCmi fun m => { m with reading := none }).offerAnswer r.answer else s
  | none => s

/-- R186: with no read in execution the interpreter takes queued commands in arrival order, a free number of them before the
next row, so that a CMD can be delivered before every one is taken (log entry 26). -/
def State.takeQueued (s : State) : State :=
  if s.cmi.reading.isNone && !s.cmi.queue.isEmpty then drainCommands (Config.commandsTaken s.freeCount) s.drawFree else s

/-- R121, R186: the end of a row: a read that has its last entry is answered, and queued commands are taken. -/
def State.settleRead (s : State) : State := s.answerRead.takeQueued

/-- R186: with no row to run the interpreter takes the next queued command, if one is to be taken (log entry 6). -/
def State.idle (s : State) : State := drainCommands 1 s

end Sys2Proof.Machine
end

