-- ==== Sys2Proof/Machine/Range.lean ====
section
/-! DEFINITION. Range arithmetic (chapter 4): the five stages of the conversion and the window tests. -/

namespace Sys2Proof.Machine

/-- R74, stage 1: the time of flight. -/
def timeOfFlight (tEcho tFire : Timestamp) : Nat := (tEcho - tFire).toNat

/-- R75, stage 2: the zero-corrected time. -/
def zeroCorrected (b : Bank) (tof : Nat) : Int := (tof : Int) - b.z0

/-- R76, stage 3: scaled by K and divided by 2^16, rounded half up. -/
def scaleRange (b : Bank) (d : Int) : Int := (d * (b.k : Int) + 32768) / 65536

/-- R77, R78, stage 4: the walk at an amplitude. -/
def walkAt (b : Bank) (amplitude : Nat) : Int :=
  if 4032 ≤ amplitude then b.walk.getD 63 0
  else
    let i := amplitude / 64
    let f := amplitude % 64
    let e0 := b.walk.getD i 0
    let e1 := b.walk.getD (i + 1) 0
    e0 + ((e1 - e0) * (f : Int) + 32) / 64

/-- R74 to R79: the range of an echo against a pulse fired at `tFire`; none when the conversion stops at stage 2. -/
def rangeOf (b : Bank) (tEcho tFire : Timestamp) (amplitude : Nat) : Option Int :=
  let d := zeroCorrected b (timeOfFlight tEcho tFire)
  if d < 0 then none else some (scaleRange b d - walkAt b amplitude)

/-- R80: the global window. -/
def inGlobalWindow (b : Bank) (r : Int) : Bool :=
  decide ((b.globalRmin : Int) ≤ r ∧ r ≤ (b.globalRmax : Int))

/-- R80: the sector window. -/
def inSectorWindow (z : ZoneEntry) (r : Int) : Bool :=
  decide ((z.rmin : Int) ≤ r ∧ r ≤ (z.rmax : Int))

/-- R59: the sector of an elevation, 0..63. -/
def sectorOf (elevation : Int) : Nat := ((elevation + 2 ^ 23) / 2 ^ 18).toNat

/-- R59: the ZONE_PLAN entry of a pulse's sector. -/
def sectorEntry (b : Bank) (p : Pulse) : ZoneEntry := b.entry .zonePlan (sectorOf p.elevation)

/-- The port requests one candidate makes: four RANGE_CONST entries, its ZONE_PLAN entry, and the one or two WALK entries
that stage 4 names, none when stage 2 stops the conversion (R73, R75, R78; the count is log entry 12). -/
def candidateRequests (b : Bank) (tEcho tFire : Timestamp) (amplitude : Nat) : Nat :=
  5 + if zeroCorrected b (timeOfFlight tEcho tFire) < 0 then 0 else if 4032 ≤ amplitude then 1 else 2

end Sys2Proof.Machine
end

