-- ==== Sys2Proof/Machine/Echo.lean ====
section
/-! DEFINITION. The Echo Assigner (chapter 3): candidates, acceptability, the choice of the pulse, placement. -/

namespace Sys2Proof.Machine

/-- R57: whether an open pulse is a candidate of an echo arriving at `te`. -/
def State.isCandidate (s : State) (te : Timestamp) (p : Pulse) : Bool :=
  decide (timeOfFlight te p.tFire < 2 ^ 39 ∧ timeOfFlight te p.tFire ≤ (s.bankFor p).listenTicks)

/-- A candidate with its place in the queue and its zone (R58). -/
structure Candidate where
  place : Nat
  pulse : Pulse
  zone : Nat
  deriving DecidableEq, Repr

/-- R57, R58: the candidates, from the youngest (zone 0) to the oldest. -/
def State.candidates (s : State) (te : Timestamp) : List Candidate :=
  let open_ := s.emq.queue.zipIdx.filter fun x => s.isCandidate te x.1
  (open_.reverse.zipIdx).map fun x => { place := x.1.2, pulse := x.1.1, zone := x.2 }

/-- An acceptable candidate with its range (R60). -/
structure Acceptable where
  cand : Candidate
  range : Int
  deriving DecidableEq, Repr

/-- R60: the candidate with its range, when it passes every test of its generation. -/
def State.acceptable? (s : State) (te : Timestamp) (amplitude : Nat) (c : Candidate) : Option Acceptable :=
  let b := s.bankFor c.pulse
  match rangeOf b te c.pulse.tFire amplitude with
  | none => none
  | some r =>
    let z := sectorEntry b c.pulse
    if inGlobalWindow b r && inSectorWindow z r && decide (c.zone ≤ z.maxZone) then some { cand := c, range := r }
    else none

/-- R60: the acceptable candidates, the youngest first. -/
def State.acceptables (s : State) (te : Timestamp) (amplitude : Nat) : List Acceptable :=
  (s.candidates te).filterMap (s.acceptable? te amplitude)

/-- R62, TRACK: the candidate's zone equals the Zone Track entry of its own sector. -/
def State.tracked (s : State) (a : Acceptable) : Bool :=
  decide (a.cand.zone = s.eca.zoneTrack.getD (sectorOf a.cand.pulse.elevation) 0)

/-- R62: the candidate a policy takes among two or more, the youngest first; none under DISCARD. -/
def State.resolve (s : State) (youngest : Acceptable) (rest : List Acceptable) : Option Acceptable :=
  match (sectorEntry (s.bankFor youngest.cand.pulse) youngest.cand.pulse).policy with
  | .nearest => some youngest
  | .farthest => some ((youngest :: rest).getLast?.getD youngest)
  | .track => some (((youngest :: rest).find? s.tracked).getD youngest)
  | .discard => none

/-- R65: insertion in increasing range, after entries of equal range. -/
def insertEcho (x : EchoEntry) : List EchoEntry → List EchoEntry
  | [] => [x]
  | y :: rest => if y.range ≤ x.range then y :: insertEcho x rest else x :: y :: rest

/-- R65, R66: what placement does to the chosen pulse: the pulse after, whether an entry more is held, and whether
ECHO_OVERFLOW is raised. -/
def Pulse.place (p : Pulse) (free maxEchoes : Nat) (x : EchoEntry) : Pulse × Bool × Bool :=
  if free = 0 then ({ p with echoOverflow := true }, false, true)
  else
    let list := insertEcho x p.echoes
    if maxEchoes < list.length then ({ p with echoes := list.dropLast, echoOverflow := true }, false, true)
    else ({ p with echoes := list }, true, false)

/-- R65, R66: the placement of an assigned echo. A removal under MaxEchoes 0 raises ECHO_OVERFLOW as any other removal of R66
does; R84's "None of these raises an event" is read of the zero fields themselves (log entry 30). -/
def State.placeEcho (s : State) (a : Acceptable) (amplitude : BitVec 12) (width : BitVec 10) : State :=
  let x : EchoEntry := { amplitude := amplitude, width := width, range := a.range.toNat, zone := a.cand.zone }
  let (p', takes, overflow) := a.cand.pulse.place s.eca.free (s.bankFor a.cand.pulse).policy.maxEchoes x
  let s1 := s.onEmq fun q => { q with queue := q.queue.set a.cand.place p' }
  let s2 := if takes then s1.onEca fun e => { e with free := e.free - 1 } else s1
  if overflow then s2.raise .echoOverflow else s2

/-- R63, R65: the Zone Track update of the choice, then the placement, which reads MaxEchoes. -/
def State.assignEcho (s : State) (a : Acceptable) (amplitude : BitVec 12) (width : BitVec 10) : State :=
  let s1 := s.onEca fun e =>
    { e with zoneTrack := e.zoneTrack.set (sectorOf a.cand.pulse.elevation) a.cand.zone }
  (s1.pipelineRequest).placeEcho a amplitude width

/-- The port requests of the candidate tests and conversions of one echo (log entry 12): one ListenTicks for each open pulse
fired at or before the echo, then those of each candidate. -/
def State.echoRequests (s : State) (te : Timestamp) (amplitude : Nat) : Nat :=
  (s.emq.queue.filter fun p => decide (timeOfFlight te p.tFire < 2 ^ 39)).length +
    ((s.candidates te).map fun c => candidateRequests (s.bankFor c.pulse) te c.pulse.tFire amplitude).sum

/-- R61, R62: the outcome of an echo among its acceptable candidates. -/
def State.decideEcho (s : State) (te : Timestamp) (amplitude : BitVec 12) (width : BitVec 10) : State :=
  match s.acceptables te amplitude.toNat with
  | [] => (s.onEca fun e => { e with orphans := e.orphans + 1 }).raise .echoOrphan
  | [a] => s.assignEcho a amplitude width
  | a :: b :: rest =>
    let s1 := s.onEca fun e => { e with ambiguous := e.ambiguous + 1 }
    match s1.resolve a (b :: rest) with
    | some chosen => s1.assignEcho chosen amplitude width
    | none => s1.raise .echoAmbiguous

/-- R56: an echo at the Echo Assigner: handled in RUNNING and DRAINING, discarded in STOPPED and WAITING. -/
def State.handleEcho (s : State) (te : Timestamp) (amplitude : BitVec 12) (width : BitVec 10) : State :=
  match s.emq.run with
  | .running => (State.pipelineRequests (s.echoRequests te amplitude.toNat) s).decideEcho te amplitude width
  | .draining => (State.pipelineRequests (s.echoRequests te amplitude.toNat) s).decideEcho te amplitude width
  | .stopped => s
  | .waiting => s

end Sys2Proof.Machine
end

