-- ==== Sys2Proof/Machine/Exposures.lean ====
section
/-! DEFINITION. The Exposure Unit of a P4C (chapter 7): the plan pointer, exposures, tiles, timeout, retirement, colour. -/

namespace Sys2Proof.Machine

/-! ### Azimuths (00_scope, Angles) -/

/-- "Reached": azimuth x has been reached by azimuth a. -/
def reached (x a : Azimuth) : Bool := decide ((a - x).toNat < 2 ^ 23)

/-- "Crossing": x is crossed between two consecutive azimuths. -/
def crossed (x prev now : Azimuth) : Bool := reached x now && !reached x prev

/-- The crossing test from an azimuth that may be unset: none crosses then (R132, R142, R143). -/
def crossedFrom (x : Azimuth) (prev : Option Azimuth) (now : Azimuth) : Bool :=
  match prev with
  | some p => crossed x p now
  | none => false

/-- R129: the lead azimuth of a pulse. -/
def State.leadAzimuth (s : State) (azimuth : Azimuth) : Azimuth := azimuth + BitVec.ofNat 24 s.params.camLead

/-! ### The plan pointer (section 7.3) -/

/-- An entry of the ACTIVE plan. -/
def State.planEntry (s : State) (i : Nat) : PlanEntry := s.tbs.bankActive.entry .exposurePlan i

/-- R131: the distance of a target ahead of the lead azimuth; 0 counts as a whole lap. -/
def seekDistance (lead target : Azimuth) : Nat :=
  if target = lead then 2 ^ 24 else (target - lead).toNat

/-- R131: the enabled entry of smallest distance among numbered entries. -/
def nearestAhead (lead : Azimuth) : List (PlanEntry × Nat) → Option (Nat × Nat)
  | [] => none
  | (e, i) :: rest =>
    let later := nearestAhead lead rest
    if e.enable then
      match later with
      | some (j, d) => if seekDistance lead e.target ≤ d then some (i, seekDistance lead e.target) else some (j, d)
      | none => some (i, seekDistance lead e.target)
    else later

/-- R131: the entry a seek finds. -/
def seekEntry (plan : List PlanEntry) (lead : Azimuth) : Option Nat :=
  (nearestAhead lead plan.zipIdx).map Prod.fst

/-- R132: the next enabled entry in index order, wrapping; none when no entry is enabled. -/
def nextEnabled (plan : List PlanEntry) (i : Nat) : Option Nat :=
  let n := TableId.entries .exposurePlan
  ((List.range n).map fun k => (i + 1 + k) % n).find? fun j => (plan.getD j (zeroEntry .exposurePlan)).enable

/-- R131: the seek, when one is pending; it reads every entry of the plan. -/
def State.seekPlan (s : State) (lead : Azimuth) : State :=
  if s.exu.seek then
    let s1 := State.pipelineRequests (TableId.entries .exposurePlan) s
    s1.onExu fun x =>
      { x with pointer := seekEntry s1.tbs.bankActive.exposurePlan lead, prevLead := some lead, seek := false }
  else s

/-! ### Exposures (section 7.4) -/

/-- R133: whether an exposure number is held by a record or a tile. -/
def Exu.holds (x : Exu) (n : BitVec 16) : Bool :=
  x.queue.any (fun r => decide (r.number = n)) || x.tiles.any fun t => decide (t.number = n)

/-- R133: the counter goes on while its number is held. -/
def skipHeld (x : Exu) : Nat → BitVec 16 → BitVec 16
  | 0, n => n
  | fuel + 1, n => if x.holds n then skipHeld x fuel (n + 1) else n

/-- R133: the number of the next exposure; no more numbers are held than there are records and tiles. -/
def Exu.nextNumber (x : Exu) : BitVec 16 := skipHeld x (x.queue.length + x.tiles.length) (x.counter + 1)

/-- What an exposure and a colour lookup know of the pulse being accepted. -/
structure PulseView where
  tFire : Timestamp
  azimuth : Azimuth
  elevation : Int
  deriving DecidableEq, Repr

/-- R133: the exposure record of plan entry `i`. -/
def exposureOf (number : BitVec 16) (i : Nat) (e : PlanEntry) (v : PulseView) : Exposure where
  number := number
  planEntry := i
  station := e.station
  tFire := v.tFire
  azimuth := v.azimuth
  elevation := v.elevation
  azLo := e.target - BitVec.ofNat 24 (e.span / 2)
  span := e.span
  elLo := e.elLo
  elHi := e.elHi

/-- R133, R135: an exposure: its number, CAM_TRIG, its record and its EXP frame. -/
def State.makeExposure (s : State) (i : Nat) (v : PulseView) : State :=
  let s1 := s.pipelineRequest
  let n := s1.exu.nextNumber
  let r := exposureOf n i (s1.planEntry i) v
  ((s1.onExu fun x => { x with counter := n, queue := x.queue ++ [r] }).onPins fun p => { p with camTrig := true }).offer
    (.exp r)

/-- R132 to R134: the compare: targets in index order from the pointer, at most `fuel` of them; the first crossed makes an
exposure when the queue has room, every other crossed one is missed. -/
def compareTargets (prev lead : Azimuth) (v : PulseView) : Nat → Bool → State → State
  | 0, _, s => s
  | fuel + 1, first, s =>
    match s.exu.pointer with
    | none => s
    | some i =>
      let s1 := s.pipelineRequest
      if crossed (s1.planEntry i).target prev lead then
        let s2 :=
          if first && decide (s1.exu.queue.length < Config.exposureCapacity) then s1.makeExposure i v
          else s1.raise .exposureMissed
        compareTargets prev lead v fuel false
          (s2.onExu fun x => { x with pointer := nextEnabled s2.tbs.bankActive.exposurePlan i })
      else s1

/-- R132: the compare of a pulse; every enabled entry is tested at most once. -/
def State.comparePlan (s : State) (lead : Azimuth) (v : PulseView) : State :=
  match s.exu.prevLead with
  | none => s
  | some prev =>
    compareTargets prev lead v ((s.tbs.bankActive.exposurePlan.filter fun e => e.enable).length) true s

/-! ### Timeout and retirement (section 7.6) -/

/-- The end of a span. -/
def spanEnd (azLo : Azimuth) (span : Nat) : Azimuth := azLo + BitVec.ofNat 24 span

/-- R142: whether a record's end is crossed. -/
def Exposure.endsAt (r : Exposure) (prev : Option Azimuth) (now : Azimuth) : Bool :=
  crossedFrom (spanEnd r.azLo r.span) prev now

/-- R141: the TLR of a record's outcome, without a stored tile. -/
def Exposure.report (r : Exposure) (outcome : TileOutcome) : Payload :=
  .tlr r.number outcome false (some (r.planEntry, r.station)) 0 0

/-- R142: TILE_TIMEOUT and the TLR of each record that timed out, in queue order. -/
def reportTimeouts : List Exposure → State → State
  | [], s => s
  | r :: rest, s => reportTimeouts rest ((s.raise .tileTimeout).offer (r.report .timeout))

/-- R142: the timeout step at a laser azimuth. -/
def State.timeoutStep (s : State) (laser : Azimuth) : State :=
  let ended := s.exu.queue.filter fun r => r.endsAt s.exu.prevLaser laser
  reportTimeouts ended
    (s.onExu fun x => { x with queue := x.queue.filter fun r => !r.endsAt x.prevLaser laser })

/-- R143: the retirement step at a laser azimuth. -/
def State.retireStep (s : State) (laser : Azimuth) : State :=
  s.onExu fun x => { x with tiles := x.tiles.filter fun t => !crossedFrom (spanEnd t.azLo t.span) x.prevLaser laser }

/-! ### Colour lookup (section 7.7) -/

/-- R144: whether a tile covers a direction. -/
def Tile.covers (t : Tile) (azimuth : Azimuth) (elevation : Int) : Bool :=
  decide ((azimuth - t.azLo).toNat < t.span ∧ t.elLo ≤ elevation ∧ elevation ≤ t.elHi)

/-- R144: exposure number `a` is `b` or newer. -/
def newerNumber (a b : BitVec 16) : Bool := decide ((a - b).toNat < 2 ^ 15)

/-- R144: the tile of the largest number, taken as a plain number. -/
def largestNumber : List Tile → Option Tile
  | [] => none
  | t :: rest =>
    match largestNumber rest with
    | none => some t
    | some u => if u.number.toNat < t.number.toNat then some t else some u

/-- R144: the tile used among the covering ones: the newest, or the largest number where none is newer than all others. -/
def chooseTile (covering : List Tile) : Option Tile :=
  match covering.find? fun a => covering.all fun b => newerNumber a.number b.number with
  | some t => some t
  | none => largestNumber covering

/-- R145: the cell of a tile at a direction. -/
def Tile.cellAt (t : Tile) (azimuth : Azimuth) (elevation : Int) : Rgb :=
  let column := (azimuth - t.azLo).toNat * t.cols / t.span
  let row := ((elevation - t.elLo) * (t.rows : Int) / (t.elHi - t.elLo + 1)).toNat
  t.cells.getD (row * t.cols + column) default

/-- R144 to R146: the colour of a pulse. -/
def State.lookupColour (s : State) (v : PulseView) : Option Colour :=
  (chooseTile (s.exu.tiles.filter fun t => t.covers v.azimuth v.elevation)).map fun t =>
    { rgb := t.cellAt v.azimuth v.elevation, exposure := t.number }

/-! ### The work on a pulse -/

/-- R128, R149: whether the unit handles accepted pulses. -/
def State.exposureUnitActs (s : State) : Bool := decide (s.variant = .p4c) && s.params.camEnable

/-- R147. -/
def State.rememberAzimuths (s : State) (lead laser : Azimuth) : State :=
  s.onExu fun x => { x with prevLead := some lead, prevLaser := some laser }

/-- R128: the unit's work on an accepted pulse, and the colour it gives. -/
def State.exposureWork (s : State) (v : PulseView) : State × Option Colour :=
  if s.exposureUnitActs then
    let lead := s.leadAzimuth v.azimuth
    let s1 := (((s.seekPlan lead).comparePlan lead v).timeoutStep v.azimuth).retireStep v.azimuth
    (s1.rememberAzimuths lead v.azimuth, s1.lookupColour v)
  else (s, none)

/-! ### Tile arrival (section 7.5) -/

/-- The record that awaits a tile number (R137). -/
def Exu.awaiting (x : Exu) (n : BitVec 16) : Option Exposure := x.queue.find? fun r => decide (r.number = n)

/-- The queue without the record of a number. -/
def Exu.without (x : Exu) (n : BitVec 16) : Exu := { x with queue := x.queue.eraseP fun r => decide (r.number = n) }

/-- R139: whether a tile arrives late. -/
def Exposure.late (r : Exposure) (prevLaser : Option Azimuth) : Bool :=
  match prevLaser with
  | some a => reached r.azLo a
  | none => false

/-- R139: the tile a record and a TILE make. -/
def tileOf (r : Exposure) (cols rows : Nat) (cells : List Rgb) : Tile where
  number := r.number
  azLo := r.azLo
  span := r.span
  elLo := r.elLo
  elHi := r.elHi
  cols := cols
  rows := rows
  cells := cells

/-- R138: a FAILED or BUSY tile of an awaiting record. -/
def State.tileFails (s : State) (r : Exposure) (outcome : TileOutcome) : State :=
  ((s.onExu fun x => x.without r.number).raise .tileFailed).offer (r.report outcome)

/-- R139: a tile is stored. -/
def State.tileStored (s : State) (r : Exposure) (cols rows : Nat) (cells : List Rgb) : State :=
  (s.onExu fun x => { x.without r.number with tiles := x.tiles ++ [tileOf r cols rows cells] }).offer
    (.tlr r.number .stored (r.late s.exu.prevLaser) (some (r.planEntry, r.station)) cols rows)

/-- R140: a tile finds the store full. -/
def State.tileDrops (s : State) (r : Exposure) : State :=
  ((s.onExu fun x => x.without r.number).raise .tileDropped).offer (r.report .dropped)

/-- R137: an unmatched tile. -/
def State.tileUnmatched (s : State) (n : BitVec 16) : State :=
  (s.raise .tileDropped).offer (.tlr n .unmatched false none 0 0)

/-- R137 to R140: a delivered TILE. -/
def State.handleTile (s : State) (n : BitVec 16) (status : TileStatus) (cols rows : Nat) (cells : List Rgb) : State :=
  match s.exu.awaiting n with
  | none => s.tileUnmatched n
  | some r =>
    match status with
    | .failed => s.tileFails r .failed
    | .busy => s.tileFails r .busy
    | .ok =>
      if s.exu.tiles.length < Config.tileCapacity then s.tileStored r cols rows cells else s.tileDrops r

end Sys2Proof.Machine
end

