-- ==== Sys2Proof/Machine/Stream.lean ====
section
/-! DEFINITION. Stream time (section 1.5), and the handling of FIRE, ECHO and TICK records through the blocks. -/

namespace Sys2Proof.Machine

/-! ### Acceptance (section 3.3) -/

/-- R45: whether a channel is TRACKING or HOLDING. -/
def Channel.usable (c : Channel) : Bool := decide (c.state = .tracking) || decide (c.state = .holding)

/-- 00_scope, "After (strictly later)". -/
def strictlyAfter (t u : Timestamp) : Bool := decide (t ≠ u ∧ (t - u).toNat < 2 ^ 39)

/-- R45, the third condition. -/
def Emq.laterThanTail (q : Emq) (t : Timestamp) : Bool :=
  match q.queue.getLast? with
  | none => true
  | some p => strictlyAfter t p.tFire

/-- R46: room is made in a full queue. -/
def State.makeRoom (s : State) : State :=
  if Config.queueCapacity ≤ s.emq.queue.length then s.evictHead else s

/-- R38, R47: the pulse record appended. -/
def State.newPulse (s : State) (t : Timestamp) (m : MirrorAngles) (azimuth : Azimuth) (colour : Option Colour) : Pulse where
  seq := s.emq.accepted
  tFire := t
  elevation := m.elevation
  azimuth := azimuth
  facet := m.facet
  sweep := s.ant.sweep
  gen := s.tbs.generation
  elevHeld := decide (s.ant.mirror.state = .holding)
  azHeld := decide (s.ant.azimuth.state = .holding)
  echoOverflow := false
  colour := colour
  echoes := []

/-- R46, R47: a pulse is accepted: eviction, exposure work, append. -/
def State.acceptPulse (s : State) (t : Timestamp) (m : MirrorAngles) (azimuth : Azimuth) : State :=
  let s1 := s.makeRoom
  let w := s1.exposureWork { tFire := t, azimuth := azimuth, elevation := m.elevation }
  let p := w.1.newPulse t m azimuth w.2
  w.1.onEmq fun q => { q with queue := q.queue ++ [p], accepted := q.accepted + 1 }

/-- R45: a pulse in RUNNING is accepted, refused with FRAME_REJECT, or discarded. -/
def State.judgePulse (s : State) (t : Timestamp) (h : Handoff) : State :=
  match h.mirror, h.azimuth with
  | some m, some azimuth =>
    if s.ant.mirror.usable && s.ant.azimuth.usable && m.enable then
      if s.emq.laterThanTail t then s.acceptPulse t m azimuth else s.rejectFrame
    else s
  | _, _ => s

/-- R44, R41: the pulse under the run state; in WAITING the test comes first. -/
def State.considerPulse (s : State) (t : Timestamp) (h : Handoff) : State :=
  match s.emq.run with
  | .stopped => s
  | .draining => s
  | .waiting => if s.startConditions then s.tryStart.judgePulse t h else s
  | .running => s.judgePulse t h

/-- R14, R34: a FIRE after the stream time comparison and closing: tracker, queue, then the boundary notice; the gap before it
is a place for fetches (R118). -/
def State.handleFire (s : State) (t : Timestamp) (mirrorRaw azRaw : RawCount) : State :=
  let k := s.track mirrorRaw azRaw
  let s1 := k.1.considerPulse t k.2
  if k.2.boundary then s1.portGap.boundaryNotice else s1

/-! ### Stream time (section 1.5) -/

/-- The outcomes of the comparison (section 1.5). -/
inductive TimeOutcome where
  | advance
  | same
  | late
  | jump
  deriving DecidableEq, Repr

/-- R8, R10, R11: the comparison of a timestamp with stream time. -/
def compareTime (now : Option Timestamp) (slack : Nat) (t : Timestamp) : TimeOutcome :=
  match now with
  | none => .advance
  | some n =>
    if t = n then .same
    else if (t - n).toNat < 2 ^ 39 then .advance
    else if (n - t).toNat ≤ slack then .late
    else .jump

/-- Write stream time. -/
def State.setTime (s : State) (t : Timestamp) : State := s.onHlr fun h => { h with streamTime := some t }

/-- R9: an advance: stream time, closing, batch age test. -/
def State.advance (s : State) (t : Timestamp) : State := ((s.setTime t).closing).batchAgeTest

/-- R11: a time jump. -/
def State.timeJump (s : State) (t : Timestamp) : State := (s.setTime t).askResync .timeJump

/-- Section 1.5: the comparison, what it causes, and then the record's own handling unless it is a time jump. -/
def State.timed (s : State) (t : Timestamp) (handle : State → State) : State :=
  match compareTime s.hlr.streamTime s.params.timeSlack t with
  | .advance => handle (s.advance t)
  | .same => handle s
  | .late => handle s
  | .jump => s.timeJump t

end Sys2Proof.Machine
end

