-- ==== Sys2Proof/Machine/HeadLink.lean ====
section
/-! DEFINITION. The Head Link Receiver (chapter 1): the link states, classification, and the delivery of every record. -/

namespace Sys2Proof.Machine

/-! ### Link states (section 1.3) -/

/-- R2: a passing frame in HUNT: the second in a row moves to SYNC; the frame is not delivered. -/
def Hlr.huntPass (h : Hlr) : Hlr :=
  if h.goodRun + 1 < 2 then { h with goodRun := h.goodRun + 1 }
  else { h with link := .sync, goodRun := 0, badRun := 0 }

/-- R4: a failing frame in SYNC. -/
def State.syncFail (s : State) : State :=
  let s1 := s.raise .linkCrc
  if s1.hlr.badRun + 1 < 4 then s1.onHlr fun h => { h with badRun := h.badRun + 1 }
  else
    ((s1.raise .linkLost).onHlr fun h => { h with link := .hunt, goodRun := 0, badRun := 0 }).askResync .linkLost

/-- R2, R4: a frame that fails the check. -/
def State.frameFails (s : State) : State :=
  match s.hlr.link with
  | .hunt => s.onHlr fun h => { h with goodRun := 0 }
  | .sync => s.syncFail

/-- R2, R3: a frame that passes the check; in SYNC it ends a run of failures and goes on to `deliver`. -/
def State.framePasses (s : State) (deliver : State → State) : State :=
  match s.hlr.link with
  | .hunt => s.onHlr Hlr.huntPass
  | .sync => deliver (s.onHlr fun h => { h with badRun := 0 })

/-- R16: while RESET_N is asserted, frames on the Head Link are not received. -/
def State.received (s : State) (handle : State → State) : State := if s.pins.resetHeld then s else handle s

/-! ### Delivery (section 1.6) -/

/-- R14: a FIRE. -/
def State.deliverFire (s : State) (t : Timestamp) (mirror azimuth : RawCount) : State :=
  s.timed t fun s' => s'.handleFire t mirror azimuth

/-- R14, R56: an ECHO. -/
def State.deliverEcho (s : State) (t : Timestamp) (amplitude : BitVec 12) (width : BitVec 10) : State :=
  s.timed t fun s' => s'.handleEcho t amplitude width

/-- R14: a TICK is complete once stream time and any closing are settled. -/
def State.deliverTick (s : State) (t : Timestamp) : State := s.timed t fun s' => s'

/-- R15, R6: a TILE: refused when it fails the tile tests or the part is a P4M. -/
def State.deliverTile (s : State) (n : BitVec 16) (status : TileStatus) (cols rows : Byte) (cells : List Rgb) : State :=
  if s.variant = .p4c ∧ tileFieldsOk status cols rows cells = true then
    s.handleTile n status cols.toNat rows.toNat cells
  else s.rejectFrame

/-- R15, R5: a CMD: refused when it carries more argument bytes than a frame may. -/
def State.deliverCmd (s : State) (c : Command) : State :=
  if c.args.length ≤ maxArgs then s.deliverCommand c else s.rejectFrame

/-- Section 1.4: a delivered record reaches the block or blocks of its kind. -/
def State.deliver (s : State) : Record → State
  | .fire t m a => s.deliverFire t m a
  | .echo t a w => s.deliverEcho t a w
  | .tick t => s.deliverTick t
  | .index c raw => s.handleIndex c raw
  | .tile n st cols rows cells => s.deliverTile n st cols rows cells
  | .cmd c => s.deliverCmd c

/-- R5: classification: the record is delivered, or the frame refused. -/
def State.classified (s : State) (kind : Byte) (payload : List Byte) : State :=
  match classify s.variant kind payload with
  | some r => s.deliver r
  | none => s.rejectFrame

/-- R1 to R6: the bytes from one delimiter to the next. -/
def State.receiveBytes (s : State) (bytes : List Byte) : State :=
  s.received fun s1 =>
    match checkFrame bytes with
    | none => s1.frameFails
    | some (kind, payload) => s1.framePasses fun s2 => s2.classified kind payload

/-- R2, R3: a frame of a record arrives and passes the check. -/
def State.receiveRecord (s : State) (r : Record) : State := s.received fun s1 => s1.framePasses fun s2 => s2.deliver r

/-- R184: a CMD frame arrives and passes the check. -/
def State.receiveCommand (s : State) (tag code : Byte) (args : List Byte) : State :=
  s.receiveRecord (.cmd { tag := tag, code := code, args := args })

end Sys2Proof.Machine
end

