-- ==== Sys2Proof/Machine/LinkRows.lean ====
section
/-! DEFINITION. The meanings of the reset, frame and record rows of the opcode table. -/

namespace Sys2Proof.Machine

/-- The outcome of every meaning: a next state (the spec stops the part nowhere). -/
abbrev Result := Host.Outcome State Fault Refusal

/-- The end of every row but the resets: a finished read is answered and queued commands are taken (R186). -/
def State.settled (s : State) : Result := .next s.settleRead

/-- R16: every block in its power-on state, RESET set after the flags are cleared (R183). -/
def execPowerOnReset (lines : Lines) (s : State) : Result :=
  .next (State.powerOn s.variant lines.calEn lines.recReady s.freeCount s.pending)

/-- R16: RESET_N is asserted. -/
def execLineReset (s : State) : Result := .next s.lineReset

/-- R16: RESET_N is released; the receiver is in HUNT and takes the next delimiter. -/
def execResetNRelease (lines : Lines) (s : State) : Result :=
  .next ((s.onPins fun p => { p with resetHeld := false }).withLines lines)

/-- R4 (R2 in HUNT): the bytes of a frame that fails the check or is cut off (log entry 9). -/
def execFrameCheckFail (bytes : List Byte) (s : State) : Result := (s.receiveBytes bytes).settled

/-- R2: the bytes of a frame that passes the check in HUNT (log entry 9). -/
def execHuntFrame (bytes : List Byte) (s : State) : Result := (s.receiveBytes bytes).settled

/-- R5, R6, R7: the bytes of a frame that passes the check in SYNC and is refused (log entry 9). -/
def execFrameRefused (bytes : List Byte) (s : State) : Result := (s.receiveBytes bytes).settled

/-- R14: a FIRE. -/
def execFire (t : Timestamp) (mirror azimuth : RawCount) (s : State) : Result :=
  (s.receiveRecord (.fire t mirror azimuth)).settled

/-- R56: an ECHO. -/
def execEcho (t : Timestamp) (amplitude : BitVec 12) (width : BitVec 10) (s : State) : Result :=
  (s.receiveRecord (.echo t amplitude width)).settled

/-- R14: a TICK. -/
def execTick (t : Timestamp) (s : State) : Result := (s.receiveRecord (.tick t)).settled

/-- R20, R21: an INDEX. -/
def execIndex (channel : ChannelId) (raw : RawCount) (s : State) : Result := (s.receiveRecord (.index channel raw)).settled

/-- R137 to R140: a TILE. -/
def execTile (exposure : BitVec 16) (status : TileStatus) (cols rows : Byte) (cells : List Rgb) (s : State) : Result :=
  (s.receiveRecord (.tile exposure status cols rows cells)).settled

end Sys2Proof.Machine
end

