-- ==== Sys2Proof/Machine/CommandRows.lean ====
section
/-! DEFINITION. The meanings of the command rows of the opcode table: a CMD frame of each command arrives (R184 to R188), and
the grant of one fetch to the read in execution. -/

namespace Sys2Proof.Machine

/-- R187: a CMD whose code names no command. -/
def execUnknownCommand (tag code : Byte) (args : List Byte) (s : State) : Result := (s.receiveCommand tag code args).settled

/-- R189: identify as a CMD. -/
def execIdentify (tag : Byte) (args : List Byte) (s : State) : Result := (s.receiveCommand tag 0x01#8 args).settled

/-- R190: getStatus as a CMD. -/
def execGetStatus (tag : Byte) (args : List Byte) (s : State) : Result := (s.receiveCommand tag 0x02#8 args).settled

/-- R178, R196: readEvents as a CMD. -/
def execReadEvents (tag : Byte) (args : List Byte) (s : State) : Result := (s.receiveCommand tag 0x03#8 args).settled

/-- R179, R196: clearEvents as a CMD. -/
def execClearEvents (tag : Byte) (args : List Byte) (s : State) : Result := (s.receiveCommand tag 0x04#8 args).settled

/-- R191: setParam as a CMD. -/
def execSetParam (tag : Byte) (args : List Byte) (s : State) : Result := (s.receiveCommand tag 0x05#8 args).settled

/-- R192: getParam as a CMD. -/
def execGetParam (tag : Byte) (args : List Byte) (s : State) : Result := (s.receiveCommand tag 0x06#8 args).settled

/-- R106 to R109: tableWrite as a CMD. -/
def execTableWrite (tag : Byte) (args : List Byte) (s : State) : Result := (s.receiveCommand tag 0x07#8 args).settled

/-- R120, R121: tableRead as a CMD. -/
def execTableRead (tag : Byte) (args : List Byte) (s : State) : Result := (s.receiveCommand tag 0x08#8 args).settled

/-- R110, R111: tableCommit as a CMD. -/
def execTableCommit (tag : Byte) (args : List Byte) (s : State) : Result := (s.receiveCommand tag 0x09#8 args).settled

/-- R116: tableCancel as a CMD. -/
def execTableCancel (tag : Byte) (args : List Byte) (s : State) : Result := (s.receiveCommand tag 0x0A#8 args).settled

/-- R117: tableState as a CMD. CAL_EN is reported as found (log entry 2). -/
def execTableState (tag : Byte) (args : List Byte) (lines : Lines) (s : State) : Result :=
  ((s.withLines lines).receiveCommand tag 0x0B#8 args).settled

/-- R124, R194: setProtect as a CMD. CAL_EN is consulted as found (log entry 2). -/
def execSetProtect (tag : Byte) (args : List Byte) (lines : Lines) (s : State) : Result :=
  ((s.withLines lines).receiveCommand tag 0x0C#8 args).settled

/-- R40, R41: start as a CMD. -/
def execStart (tag : Byte) (args : List Byte) (s : State) : Result := (s.receiveCommand tag 0x0D#8 args).settled

/-- R42, R43: stop as a CMD. -/
def execStop (tag : Byte) (args : List Byte) (s : State) : Result := (s.receiveCommand tag 0x0E#8 args).settled

/-- R55: resync as a CMD. -/
def execResync (tag : Byte) (args : List Byte) (s : State) : Result := (s.receiveCommand tag 0x0F#8 args).settled

/-- R152: triggerSet as a CMD. -/
def execTriggerSet (tag : Byte) (args : List Byte) (s : State) : Result := (s.receiveCommand tag 0x10#8 args).settled

/-- R155: triggerArm as a CMD. -/
def execTriggerArm (tag : Byte) (args : List Byte) (s : State) : Result := (s.receiveCommand tag 0x11#8 args).settled

/-- R165: triggerRead as a CMD. -/
def execTriggerRead (tag : Byte) (args : List Byte) (s : State) : Result := (s.receiveCommand tag 0x12#8 args).settled

/-- R166: captureRead as a CMD. -/
def execCaptureRead (tag : Byte) (args : List Byte) (s : State) : Result := (s.receiveCommand tag 0x13#8 args).settled

/-- R198: reset as a CMD. The answer leaves when REC_READY is high (R182). -/
def execReset (tag : Byte) (args : List Byte) (lines : Lines) (s : State) : Result :=
  ((s.withLines lines).receiveCommand tag 0x14#8 args).settled

/-- R119, R121: the read port grants one fetch to the read in execution; the last fetch brings the answer and the queued
commands (R186), which find the lines at the levels given. -/
def execTableReadFetch (lines : Lines) (s : State) : Result := (s.withLines lines).grantCommand.settled

end Sys2Proof.Machine
end

