-- ==== Sys2Proof/Machine/EventRows.lean ====
section
/-! DEFINITION. The meanings of the rows that the spec also places inside other rows (spec/95), and of the line and link
events. Each of the former acts when its own condition holds and leaves the state alone otherwise (log entry 10). -/

namespace Sys2Proof.Machine

/-- R48, R49: the head pulse is closed when its age in stream time exceeds its ListenTicks; the examination reads them. -/
def State.pulseClose (s : State) : State :=
  match s.emq.queue with
  | [] => s
  | p :: _ =>
    let s1 := s.pipelineRequest
    if s1.expired p then s1.closeHead false else s1

/-- R49. -/
def execPulseClose (s : State) : Result := s.pulseClose.settled

/-- R172: an open batch older than BatchFlushTicks is closed and offered. -/
def execBatchFlush (s : State) : Result := s.batchAgeTest.settled

/-- R157: a window count of 0 in WAIT_L2 returns the trigger to WAIT_L1. -/
def execL2WindowEnd (s : State) : Result :=
  State.settled (if s.tru.state = .waitL2 ∧ s.tru.window = 0 then s.onTru fun t => { t with state := .waitL1 } else s)

/-- R163: a FILLING capture with nothing to go becomes FULL. -/
def execCaptureFull (s : State) : Result :=
  State.settled (if s.tru.capState = .filling ∧ s.tru.toGo = 0 then s.captureBecomesFull else s)

/-- R128: the unit examines ends at a pulse it handles: in RUNNING, with CamEnable 1, on a P4C. -/
def State.examinesEnds (s : State) : Bool := s.exposureUnitActs && decide (s.emq.run = .running)

/-- R142: the timeout step at a laser azimuth (log entry 11). -/
def execTileTimeout (laser : Azimuth) (s : State) : Result :=
  State.settled (if s.examinesEnds then s.timeoutStep laser else s)

/-- R143: the retirement step at a laser azimuth (log entry 11). -/
def execTileRetire (laser : Azimuth) (s : State) : Result :=
  State.settled (if s.examinesEnds then s.retireStep laser else s)

/-- R114: the switch that a boundary notice makes under R112 (log entry 24). -/
def execGenerationSwitch (s : State) : Result := s.boundaryNotice.settled

/-- R41: WAITING moves to RUNNING when the conditions hold. -/
def execStreamStarted (s : State) : Result := s.tryStart.settled

/-- R43: DRAINING with an empty queue ends in STOPPED. -/
def execDrainEnd (s : State) : Result := s.drainTest.settled

/-- R176: REC_READY rises. -/
def execRecReadyRise (s : State) : Result := (s.onPins fun p => { p with recReady := true }).tryDepart.settled

/-- R176: the last byte of the leaving frame leaves; the next test finds the lines at the levels given. With no frame leaving
no departure ends: the lines come to their levels, and a rise of REC_READY among them begins a departure (log entry 10). -/
def execFrameDepartureEnd (lines : Lines) (s : State) : Result :=
  State.settled (if s.rlf.departing then (s.withLines lines).endDeparture else s.withLines lines)

/-- R174: waiting answers are admitted in order while they fit. -/
def execRspWaitAdmit (s : State) : Result := s.admitAnswers.settled

/-- R133: the CAM_TRIG pulse ends and the line returns to rest. -/
def execCamTrigPulseEnd (s : State) : Result := (s.onPins fun p => { p with camTrig := false }).settled

end Sys2Proof.Machine
end

