-- ==== Sys2Proof/Machine/Dispatch.lean ====
section
/-! DEFINITION. One arm for each constructor of Instr. -/

namespace Sys2Proof.Machine

def exec (i : Instr) (s : State) : Host.Outcome State Fault Refusal :=
  match i with
  | .powerOnReset lines => Sys2Proof.Machine.execPowerOnReset lines s
  | .lineReset => Sys2Proof.Machine.execLineReset s
  | .resetNRelease lines => Sys2Proof.Machine.execResetNRelease lines s
  | .frameCheckFail bytes => Sys2Proof.Machine.execFrameCheckFail bytes s
  | .huntFrame bytes => Sys2Proof.Machine.execHuntFrame bytes s
  | .frameRefused bytes => Sys2Proof.Machine.execFrameRefused bytes s
  | .fire t mirror azimuth => Sys2Proof.Machine.execFire t mirror azimuth s
  | .echo t amplitude width => Sys2Proof.Machine.execEcho t amplitude width s
  | .tick t => Sys2Proof.Machine.execTick t s
  | .index channel raw => Sys2Proof.Machine.execIndex channel raw s
  | .tile exposure status cols rows cells => Sys2Proof.Machine.execTile exposure status cols rows cells s
  | .unknownCommand tag code args => Sys2Proof.Machine.execUnknownCommand tag code args s
  | .identify tag args => Sys2Proof.Machine.execIdentify tag args s
  | .getStatus tag args => Sys2Proof.Machine.execGetStatus tag args s
  | .readEvents tag args => Sys2Proof.Machine.execReadEvents tag args s
  | .clearEvents tag args => Sys2Proof.Machine.execClearEvents tag args s
  | .setParam tag args => Sys2Proof.Machine.execSetParam tag args s
  | .getParam tag args => Sys2Proof.Machine.execGetParam tag args s
  | .tableWrite tag args => Sys2Proof.Machine.execTableWrite tag args s
  | .tableRead tag args => Sys2Proof.Machine.execTableRead tag args s
  | .tableReadFetch lines => Sys2Proof.Machine.execTableReadFetch lines s
  | .tableCommit tag args => Sys2Proof.Machine.execTableCommit tag args s
  | .tableCancel tag args => Sys2Proof.Machine.execTableCancel tag args s
  | .tableState tag args lines => Sys2Proof.Machine.execTableState tag args lines s
  | .setProtect tag args lines => Sys2Proof.Machine.execSetProtect tag args lines s
  | .start tag args => Sys2Proof.Machine.execStart tag args s
  | .stop tag args => Sys2Proof.Machine.execStop tag args s
  | .resync tag args => Sys2Proof.Machine.execResync tag args s
  | .triggerSet tag args => Sys2Proof.Machine.execTriggerSet tag args s
  | .triggerArm tag args => Sys2Proof.Machine.execTriggerArm tag args s
  | .triggerRead tag args => Sys2Proof.Machine.execTriggerRead tag args s
  | .captureRead tag args => Sys2Proof.Machine.execCaptureRead tag args s
  | .reset tag args lines => Sys2Proof.Machine.execReset tag args lines s
  | .pulseClose => Sys2Proof.Machine.execPulseClose s
  | .batchFlush => Sys2Proof.Machine.execBatchFlush s
  | .l2WindowEnd => Sys2Proof.Machine.execL2WindowEnd s
  | .captureFull => Sys2Proof.Machine.execCaptureFull s
  | .tileTimeout laser => Sys2Proof.Machine.execTileTimeout laser s
  | .tileRetire laser => Sys2Proof.Machine.execTileRetire laser s
  | .generationSwitch => Sys2Proof.Machine.execGenerationSwitch s
  | .streamStarted => Sys2Proof.Machine.execStreamStarted s
  | .drainEnd => Sys2Proof.Machine.execDrainEnd s
  | .recReadyRise => Sys2Proof.Machine.execRecReadyRise s
  | .frameDepartureEnd lines => Sys2Proof.Machine.execFrameDepartureEnd lines s
  | .rspWaitAdmit => Sys2Proof.Machine.execRspWaitAdmit s
  | .camTrigPulseEnd => Sys2Proof.Machine.execCamTrigPulseEnd s

end Sys2Proof.Machine
end

