-- ==== Sys2Proof/Safety.lean ====
section
/-! DEFINITION. The terms that claims use: when the part takes a record or a command, what an answer is, and the invariants
that the manual states of a running part. -/

namespace Sys2Proof.Machine

/-! ### Taking records and commands -/

/-- Frames that pass the check are delivered: the link is in SYNC and RESET_N is released (R2, R16). -/
def State.listens (s : State) : Prop := s.pins.resetHeld = false ∧ s.hlr.link = .sync

/-- The Command Interpreter is idle: no TABLE_READ is in execution and no command is queued (R184, R186). -/
def State.quiet (s : State) : Prop := s.cmi.reading = none ∧ s.cmi.queue = []

/-- A delivered command is taken at once: the part listens and the interpreter is idle (R184). -/
def State.takes (s : State) : Prop := s.listens ∧ s.quiet

/-- The state in which the record of a passing frame is handled: the bad run is 0 (R3). -/
def State.passed (s : State) : State := { s with hlr := { s.hlr with badRun := 0 } }

/-- A command of the given tag, code and arguments is answered with a result and a body, and nothing else changes (R188). -/
def State.respond (s : State) (tag code : Byte) (result : ResultCode) (body : List Byte) : State :=
  s.offerAnswer { tag := tag, code := code, result := result, body := body }

/-- The record of a command row. -/
def commandRecord (code tag : Byte) (args : List Byte) : Record := .cmd { tag := tag, code := code, args := args }

/-- The record whose passing frame a row stands for, with the input lines that the row samples (log entries 2 and 8); none for
the rows that are no frame of a given record. -/
def recordOf : Instr → Option (Record × Option Lines)
  | .powerOnReset _ => none
  | .lineReset => none
  | .resetNRelease _ => none
  | .frameCheckFail _ => none
  | .huntFrame _ => none
  | .frameRefused _ => none
  | .fire t mirror azimuth => some (.fire t mirror azimuth, none)
  | .echo t amplitude width => some (.echo t amplitude width, none)
  | .tick t => some (.tick t, none)
  | .index channel raw => some (.index channel raw, none)
  | .tile n st cols rows cells => some (.tile n st cols rows cells, none)
  | .unknownCommand tag code args => some (commandRecord code tag args, none)
  | .identify tag args => some (commandRecord 0x01#8 tag args, none)
  | .getStatus tag args => some (commandRecord 0x02#8 tag args, none)
  | .readEvents tag args => some (commandRecord 0x03#8 tag args, none)
  | .clearEvents tag args => some (commandRecord 0x04#8 tag args, none)
  | .setParam tag args => some (commandRecord 0x05#8 tag args, none)
  | .getParam tag args => some (commandRecord 0x06#8 tag args, none)
  | .tableWrite tag args => some (commandRecord 0x07#8 tag args, none)
  | .tableRead tag args => some (commandRecord 0x08#8 tag args, none)
  | .tableReadFetch _ => none
  | .tableCommit tag args => some (commandRecord 0x09#8 tag args, none)
  | .tableCancel tag args => some (commandRecord 0x0A#8 tag args, none)
  | .tableState tag args lines => some (commandRecord 0x0B#8 tag args, some lines)
  | .setProtect tag args lines => some (commandRecord 0x0C#8 tag args, some lines)
  | .start tag args => some (commandRecord 0x0D#8 tag args, none)
  | .stop tag args => some (commandRecord 0x0E#8 tag args, none)
  | .resync tag args => some (commandRecord 0x0F#8 tag args, none)
  | .triggerSet tag args => some (commandRecord 0x10#8 tag args, none)
  | .triggerArm tag args => some (commandRecord 0x11#8 tag args, none)
  | .triggerRead tag args => some (commandRecord 0x12#8 tag args, none)
  | .captureRead tag args => some (commandRecord 0x13#8 tag args, none)
  | .reset tag args lines => some (commandRecord 0x14#8 tag args, some lines)
  | .pulseClose => none
  | .batchFlush => none
  | .l2WindowEnd => none
  | .captureFull => none
  | .tileTimeout _ => none
  | .tileRetire _ => none
  | .generationSwitch => none
  | .streamStarted => none
  | .drainEnd => none
  | .recReadyRise => none
  | .frameDepartureEnd _ => none
  | .rspWaitAdmit => none
  | .camTrigPulseEnd => none

/-- The state with the input lines at the levels a row finds, if it samples them. -/
def State.atLines (s : State) : Option Lines → State
  | some l => s.withLines l
  | none => s

/-- R41: both channels TRACKING and the ACTIVE status of the seven tables other than EXPOSURE_PLAN VALID. -/
def State.ready (s : State) : Prop :=
  s.ant.mirror.state = .tracking ∧ s.ant.azimuth.state = .tracking ∧
    ∀ t : TableId, t ≠ .exposurePlan → s.tbs.activeStatus.get t = .valid

/-! ### Emission Queue and echo pool -/

/-- R64: free entries and entries held by open pulses number 512. -/
def State.poolBalanced (s : State) : Prop := s.eca.free + heldEchoes s.emq.queue = Config.poolCapacity

/-- R54: Accepted equals Closed plus Flushed plus the number of open pulses, modulo 2^32. -/
def State.accountsBalance (s : State) : Prop :=
  s.emq.accepted = s.emq.closed + s.emq.flushed + BitVec.ofNat 32 s.emq.queue.length

/-- R39: `q` stands directly behind `p` in the queue: the next seq, and a strictly later fire time. -/
def Follows (p q : Pulse) : Prop := q.seq = p.seq + 1 ∧ strictlyAfter q.tFire p.tFire = true

/-- R39: at most 128 pulses, seq consecutive up to the one before Accepted, fire times increasing, and no pulse in STOPPED or
WAITING. -/
def State.queueInOrder (s : State) : Prop :=
  s.emq.queue.length ≤ Config.queueCapacity ∧
  s.emq.queue.IsChain Follows ∧
  (∀ p ∈ s.emq.queue.getLast?, p.seq + 1 = s.emq.accepted) ∧
  (s.emq.run = .stopped ∨ s.emq.run = .waiting → s.emq.queue = [])

/-- R60, R81: an echo entry lies within the windows of its pulse's generation and sector, and its zone within MaxZone. -/
def State.entryInWindows (s : State) (p : Pulse) (e : EchoEntry) : Prop :=
  inGlobalWindow (s.bankFor p) e.range = true ∧
  inSectorWindow (sectorEntry (s.bankFor p) p) e.range = true ∧
  e.zone ≤ (sectorEntry (s.bankFor p) p).maxZone

/-- R112, R64, R65, R81, R45: what holds of an open pulse: its generation is the current one or the one before, its list is in
range order, holds at most MaxEchoes entries and only entries within its windows, and its elevation is a signed 24-bit
value. -/
def State.served (s : State) (p : Pulse) : Prop :=
  (p.gen = s.tbs.generation ∨ p.gen = s.tbs.generation - 1) ∧
  p.echoes.Pairwise (fun x y => x.range ≤ y.range) ∧
  p.echoes.length ≤ (s.bankFor p).policy.maxEchoes ∧
  (∀ e ∈ p.echoes, s.entryInWindows p e) ∧
  (-(2 ^ 23) ≤ p.elevation ∧ p.elevation < 2 ^ 23)

/-- Every open pulse is served, and none is open in STOPPED or WAITING. -/
def State.pulsesServed (s : State) : Prop :=
  (∀ p ∈ s.emq.queue, s.served p) ∧ (s.emq.run = .stopped ∨ s.emq.run = .waiting → s.emq.queue = [])

/-! ### Table Store -/

/-- The number of entries of every table in a bank (section 6.1). -/
def Bank.sized (b : Bank) : Prop := ∀ t : TableId, (b.table t).length = t.entries

/-- R103, R105: the banks keep their sizes, a CLEAN table's STAGED content is its ACTIVE content, and an EMPTY table's ACTIVE
content is all zeros. -/
def State.banksAgree (s : State) : Prop :=
  s.tbs.staged.sized ∧ s.tbs.bankActive.sized ∧ s.tbs.retiring.sized ∧
  ∀ t : TableId,
    (s.tbs.stagedStatus.get t = .clean → s.tbs.staged.table t = s.tbs.bankActive.table t) ∧
    (s.tbs.activeStatus.get t = .empty → s.tbs.bankActive.table t = Bank.zero.table t)

/-! ### Exposure Unit -/

/-- The exposure numbers held by records and tiles (R133). -/
def Exu.numbers (x : Exu) : List (BitVec 16) := x.queue.map Exposure.number ++ x.tiles.map Tile.number

/-- R133, R149: at most 8 records and 4 tiles, no number held twice, and nothing on a P4M. -/
def State.exposuresDistinct (s : State) : Prop :=
  s.exu.queue.length ≤ Config.exposureCapacity ∧
  s.exu.tiles.length ≤ Config.tileCapacity ∧
  s.exu.numbers.Nodup ∧
  (s.variant = .p4m →
    s.exu.queue = [] ∧ s.exu.tiles = [] ∧ s.pins.camTrig = false ∧ ∀ p ∈ s.emq.queue, p.colour = none)

/-! ### Trigger Unit -/

/-- R157: the window count is 1..65535 in WAIT_L2 and 0 in every other state. -/
def Tru.windowFits (t : Tru) : Prop :=
  (t.state = .waitL2 → 1 ≤ t.window ∧ t.window ≤ 65535) ∧ (t.state ≠ .waitL2 → t.window = 0)

/-- R162, R163, R164: what the Capture Buffer holds in each capture state. -/
def Tru.captureFits (t : Tru) : Prop :=
  match t.capState with
  | .empty => t.capture = [] ∧ t.toGo = 0 ∧ t.hitPos = 0
  | .filling =>
    1 ≤ t.toGo ∧ t.toGo ≤ 15 ∧ t.capture.length + t.toGo ≤ Config.captureCapacity ∧ 1 ≤ t.hitPos ∧
      t.hitPos ≤ t.capture.length
  | .full =>
    t.toGo = 0 ∧ t.capture.length ≤ Config.captureCapacity ∧ 1 ≤ t.hitPos ∧ t.hitPos ≤ t.capture.length

/-- R157, R160, R161, R162, R163: the Trigger Unit's items keep their values of section 8.1. -/
def Tru.consistent (t : Tru) : Prop :=
  t.windowFits ∧ t.captureFits ∧
  (1 ≤ t.config.l2Window ∧ t.config.l2Window ≤ 65535) ∧
  t.config.markCount ≤ 255 ∧ t.marks ≤ 255 ∧ t.hits ≤ 65535 ∧
  t.history.length ≤ Config.historyCapacity ∧
  (t.state = .off → t.history = [])

/-! ### Record Link Framer -/

/-- R204, R175: an admitted frame's check covers the header it was admitted with, and GAP stands on a PTS alone. -/
def OutFrame.sealed (f : OutFrame) : Prop :=
  f.check = frameCheck f.payload f.summary f.gap ∧ (f.gap = true → f.payload.isPts = true)

/-- R168, R170, R173, R174, R175, R176: the buffer's two limits, the batch below 32 records, the front answer waiting only for
want of space, a frame leaving only when the buffer holds one, none waiting to leave while REC_READY is high. -/
def State.framerConsistent (s : State) : Prop :=
  s.bufferBytes ≤ Config.bufferCapacity ∧
  s.otherBytes ≤ Config.bufferCapacity - Config.responseReserve ∧
  s.rlf.batch.length < Config.batchCapacity ∧
  (∀ a ∈ s.rlf.waiting.head?, s.fitsFreeSpace (.rsp a) = false) ∧
  (s.rlf.departing = true → s.rlf.buffer ≠ []) ∧
  (s.rlf.departing = false → s.rlf.buffer ≠ [] → s.pins.recReady = false) ∧
  (∀ f ∈ s.rlf.buffer, f.sealed) ∧
  s.rlf.dropped ≤ 2 ^ 32 - 1

/-! ### Command Interpreter and read port -/

/-- R184, R119, R121: at most 4 commands wait; a read in execution has a fetch to make, of at most 32; the count of pipeline
grants is at most 64, and 0 with no read in execution. Commands wait behind a read or while the interpreter goes on taking them
(R186). -/
def State.commandsConsistent (s : State) : Prop :=
  s.cmi.queue.length ≤ Config.commandCapacity ∧
  s.tbs.grants ≤ Config.grantLimit ∧
  match s.cmi.reading with
  | some r => r.done < r.count ∧ r.count ≤ 32
  | none => s.tbs.grants = 0

/-! ### Head Link Receiver, Angle Tracker and parameters -/

/-- R2, R4, R7: the run counts never rest at 2 or 4, and each is 0 in the other link state. -/
def Hlr.consistent (h : Hlr) : Prop :=
  h.goodRun ≤ 1 ∧ h.badRun ≤ 3 ∧ (h.link = .sync → h.goodRun = 0) ∧ (h.link = .hunt → h.badRun = 0) ∧
    h.rejected ≤ 65535

/-- Section 2.1: a channel's counts lie below 2^B, its step is a signed B-bit value, and its runs fit its state (R22 to
R25). -/
def Channel.consistent (c : Channel) (bits : Nat) : Prop :=
  c.ref < 2 ^ bits ∧ c.last < 2 ^ bits ∧ c.used < 2 ^ bits ∧
  (-(2 ^ (bits - 1) : Int) ≤ c.step ∧ c.step < (2 ^ (bits - 1) : Int)) ∧
  c.samples ≤ 1 ∧ c.goodRun ≤ 3 ∧ c.rejectRun ≤ 255 ∧
  (c.state = .tracking → c.rejectRun = 0) ∧
  (c.state = .holding → 1 ≤ c.rejectRun ∧ c.rejectRun ≤ 7)

/-- Section 10.6: every parameter lies in its range or list, and Facets 1 does not stand with Deflection 2 (R18). -/
def Params.inRange (p : Params) : Prop :=
  (12 ≤ p.mirrorBits ∧ p.mirrorBits ≤ 20) ∧ (16 ≤ p.azBits ∧ p.azBits ≤ 24) ∧
  (1 ≤ p.mirrorVarLimit ∧ p.mirrorVarLimit ≤ 65535) ∧ (1 ≤ p.azVarLimit ∧ p.azVarLimit ≤ 65535) ∧
  p.mirrorIndexMargin ≤ 255 ∧ p.azIndexMargin ≤ 255 ∧
  (p.facets = 1 ∨ p.facets = 2 ∨ p.facets = 4 ∨ p.facets = 8) ∧
  (p.deflection = 1 ∨ p.deflection = 2) ∧ ¬(p.facets = 1 ∧ p.deflection = 2) ∧
  p.camLead ≤ 2 ^ 23 ∧ p.timeSlack ≤ 4095 ∧ (1 ≤ p.batchFlush ∧ p.batchFlush ≤ 2 ^ 32 - 1) ∧
  p.statusSelect.length = 8 ∧ ∀ n ∈ p.statusSelect, n ≤ 23 ∨ n = 31

/-- The receiver, the two channels, the last facet and the parameters are consistent. -/
def State.trackerConsistent (s : State) : Prop :=
  s.hlr.consistent ∧ s.params.inRange ∧
  s.ant.mirror.consistent s.params.mirrorBits ∧ s.ant.azimuth.consistent s.params.azBits ∧
  ∀ f ∈ s.ant.lastFacet, f < s.params.facets

end Sys2Proof.Machine
end

