-- ==== Sys2Proof/WellFormed.lean ====
section
/-! DEFINITION. Which commands keep the conditions their rows state. The machine handles the others too (log entry 22). -/

namespace Sys2Proof

/-- Whether a command code names a command of section 11.4: 01h IDENTIFY .. 14h RESET. -/
def knownCode (code : Byte) : Bool :=
  decide (1 ≤ code.toNat ∧ code.toNat ≤ 20)

/-- R5: the argument bytes a delivered CMD can carry. -/
def argsOk (args : List Byte) : Bool :=
  decide (args.length ≤ maxArgs)

/-- The record can be delivered (R5, R6), on a P4C at least. -/
def Record.wellFormed : Record → Bool
  | .fire .. => true
  | .echo .. => true
  | .tick .. => true
  | .index .. => true
  | .tile _ st cols rows cells => tileFieldsOk st cols rows cells
  | .cmd c => argsOk c.args

/-- The row's own condition on its operands. -/
def Instr.wellFormed : Instr → Bool
  | .powerOnReset _ => true
  | .lineReset => true
  | .resetNRelease _ => true
  | .frameCheckFail bytes => (checkFrame bytes).isNone
  | .huntFrame bytes => (checkFrame bytes).isSome
  | .frameRefused bytes =>
    match checkFrame bytes with
    | some (kind, payload) => (classify .p4m kind payload).isNone
    | none => false
  | .fire .. => true
  | .echo .. => true
  | .tick .. => true
  | .index .. => true
  | .tile _ st cols rows cells => tileFieldsOk st cols rows cells
  | .unknownCommand _ code args => !knownCode code && argsOk args
  | .identify _ args => argsOk args
  | .getStatus _ args => argsOk args
  | .readEvents _ args => argsOk args
  | .clearEvents _ args => argsOk args
  | .setParam _ args => argsOk args
  | .getParam _ args => argsOk args
  | .tableWrite _ args => argsOk args
  | .tableRead _ args => argsOk args
  | .tableReadFetch _ => true
  | .tableCommit _ args => argsOk args
  | .tableCancel _ args => argsOk args
  | .tableState _ args _ => argsOk args
  | .setProtect _ args _ => argsOk args
  | .start _ args => argsOk args
  | .stop _ args => argsOk args
  | .resync _ args => argsOk args
  | .triggerSet _ args => argsOk args
  | .triggerArm _ args => argsOk args
  | .triggerRead _ args => argsOk args
  | .captureRead _ args => argsOk args
  | .reset _ args _ => argsOk args
  | .pulseClose => true
  | .batchFlush => true
  | .l2WindowEnd => true
  | .captureFull => true
  | .tileTimeout _ => true
  | .tileRetire _ => true
  | .generationSwitch => true
  | .streamStarted => true
  | .drainEnd => true
  | .recReadyRise => true
  | .frameDepartureEnd _ => true
  | .rspWaitAdmit => true
  | .camTrigPulseEnd => true

end Sys2Proof
end

