-- ==== Sys2Proof/Certificates/Slice0/Obligations.lean ====
section
/-! DEFINITION. The statements for the provers. `s.passed` is the state in which the record of a passing frame is handled
(R3), `s.respond tag code result body` the offer of one answer (R174, R188). -/

open Sys2Proof Sys2Proof.Machine

/-! ### The queue of commands -/

/-- The block takes the command at the front of its queue and runs it with the queue's rest. That the block has such a queue
is the model's choice (log entry 7). With no command there, the block idles (log entry 6): R186, its Command Interpreter takes
the next queued command when no read is in execution, and nothing else changes. -/
def Obligations.StepRunsTheFrontCommand : Prop :=
  (∀ (s : State) (c : Instr) (rest : List Instr),
    step { s with pending := c :: rest } = exec c { s with pending := rest }) ∧
  ∀ s : State, s.pending = [] →
    (∀ (c : Command) (rest : List Command), s.cmi.reading = none → s.cmi.queue = c :: rest →
      step s = .next (State.takeCommand { s with cmi := { s.cmi with queue := rest } } c)) ∧
    (s.cmi.reading ≠ none ∨ s.cmi.queue = [] → step s = .next s)

/-! ### Resets -/

/-- R16, R36, R68, R69, R102, R103, R125, R150, R167, R182, R183, R199: every value after a power-on reset. The manual does not
give all of them: the levels of the input lines are the row's operand (log entry 2), RESET_N is released (log entry 3), a
channel's counts, step and runs are 0 while UNLOCKED (log entry 16), FirstTable is 0 (log entry 20), and the count of free values
and the waiting commands stay, as the model's own fields (log entries 5 and 7). -/
def Obligations.PowerOnResetLeaves : Prop :=
  ∀ (l : Lines) (s : State),
    let channel : Channel :=
      { state := .unlocked, ref := 0, samples := 0, last := 0, step := 0, rejectRun := 0, goodRun := 0, used := 0 }
    let zeros : Bank :=
      { rangeConst := List.replicate 5 0
        walk := List.replicate 64 0
        zonePlan := List.replicate 64 { rmin := 0, rmax := 0, maxZone := 0, policy := .nearest }
        echoPolicy :=
          [{ policy := .all, outMax := 0, maxEchoes := 0, ampMin := 0, widthMin := 0, widthMax := 0, tiePref := .near
             missReport := false }]
        elevCorr := List.replicate 256 0
        azCorr := List.replicate 256 0
        facet := List.replicate 8 { offset := 0, enable := false }
        exposurePlan :=
          List.replicate 64 { station := 0, target := 0, span := 0, elLo := 0, elHi := 0, enable := false } }
    let anyRecord : Condition :=
      { rangeLo := 0, rangeHi := 2 ^ 28 - 1, amplitudeMin := 0, flagMask := 0, flagValue := 0, echoIndex := 0 }
    exec (.powerOnReset l) s = .next
    { variant := s.variant
      pins := { resetHeld := false, calEn := l.calEn, recReady := l.recReady, camTrig := false }
      params :=
        { mirrorBits := 16, azBits := 20, mirrorVarLimit := 64, azVarLimit := 16, mirrorIndexMargin := 4
          azIndexMargin := 4, facets := 4, deflection := 2, azSign := .plus, camEnable := false, camLead := 0
          timeSlack := 64, batchFlush := 64000000, statusSelect := [3, 6, 10, 11, 12, 23, 17, 21], alertMaskA := 0
          alertMaskB := 0, alertPolA := .high, alertPolB := .high, keepMask := 0 }
      hlr := { link := .hunt, goodRun := 0, badRun := 0, streamTime := none, rejected := 0 }
      ant := { mirror := channel, azimuth := channel, lastFacet := none, sweep := 0 }
      emq :=
        { run := .stopped, queue := [], accepted := 0, closed := 0, flushed := 0, evicted := 0, lastClosed := none
          lastResync := none }
      eca := { free := 512, zoneTrack := List.replicate 64 0, orphans := 0, ambiguous := 0 }
      ptf := { lastSweep := none }
      tbs :=
        { staged := zeros, bankActive := zeros, retiring := zeros
          activeStatus := ⟨.empty, .empty, .empty, .empty, .empty, .empty, .empty, .empty⟩
          stagedStatus := ⟨.clean, .clean, .clean, .clean, .clean, .clean, .clean, .clean⟩
          generation := 0
          protection := { firstTable := 0, count := 0, complement := false, mode := .openMode }, grants := 0 }
      exu :=
        { pointer := none, seek := false, prevLead := none, prevLaser := none, counter := 0, queue := [], tiles := [] }
      tru :=
        { config :=
            { mode := .one, condA := anyRecord, condB := anyRecord, l2Window := 1
              respMark := false, respCapture := false, respAlert := false, markCount := 0, rearm := false }
          state := .off, window := 0, hits := 0, marks := 0, alertUnread := false, history := [], capState := .empty
          capture := [], toGo := 0, hitPos := 0, skipped := false }
      rlf := { batch := [], buffer := [], waiting := [], departing := false, gap := false, dropped := 0 }
      flags := 1#24
      cmi := { reading := none, queue := [] }
      freeCount := s.freeCount
      pending := s.pending }

/-- R16, R36, R68, R69, R102, R125, R150, R167, R180, R182, R183, R199: a line reset leaves the power-on values in every block,
except that RESET_N is now asserted, the input lines keep their levels and a FROZEN protection stays. The rules do not give all
of it: that the lines keep their levels is log entry 2, RESET_N as a flag that the two rows set and clear is log entry 3, the
counts, step and runs of an UNLOCKED channel are log entry 16, FirstTable 0 where the mode is not FROZEN is log entry 20, and
the count of free values and the waiting commands stay, as the model's own fields (log entries 5 and 7). R16, R176: its release,
with the input lines at the levels found (log entry 2); a frame begins to leave when REC_READY has risen and the buffer holds
one. -/
def Obligations.LineResetAndItsRelease : Prop :=
  (∀ s : State, exec .lineReset s = .next
    { State.powerOn s.variant s.pins.calEn s.pins.recReady s.freeCount s.pending with
      pins := { resetHeld := true, calEn := s.pins.calEn, recReady := s.pins.recReady, camTrig := false }
      tbs :=
        { Tbs.initial with
          protection := if s.tbs.protection.mode = .frozen then s.tbs.protection else Protection.initial } }) ∧
  (∀ (l : Lines) (s : State), exec (.resetNRelease l) s = .next
    { s with
      pins := { resetHeld := false, calEn := l.calEn, recReady := l.recReady, camTrig := s.pins.camTrig }
      rlf :=
        { s.rlf with
          departing :=
            s.rlf.departing || (l.recReady && !s.pins.recReady && !s.rlf.buffer.isEmpty) } })

/-- R198, R182, R183, R126, R37, R151, R174: RESET empties every block, keeps the parameters, the table contents, the generation
and the protection, turns PENDING into DIRTY, and its answer is the first frame in the emptied buffer. What the rules do not
give stands as after a power-on reset: the counts, step and runs of an UNLOCKED channel (log entry 16), and the count of free
values and the waiting rows, which stay as the model's own fields (log entries 5 and 7). R186: a RESET taken from the queue does
the same in every state, the lines as held (log entry 2), and the commands behind it are dropped unanswered. -/
def Obligations.SoftResetKeepsTheSettings : Prop :=
  ∀ (tag : Byte) (s : State),
    let flags : EventSet := 1#24
    let answer : Payload := .rsp { tag := tag, code := 0x14#8, result := .ok, body := [] }
    let summary := summaryOf s.params.statusSelect flags
    let after (held calEn recReady : Bool) : State :=
      { State.powerOn s.variant calEn recReady s.freeCount s.pending with
        pins := { resetHeld := held, calEn := calEn, recReady := recReady, camTrig := false }
        params := s.params
        tbs :=
          { s.tbs with
            retiring := s.tbs.bankActive
            stagedStatus :=
              PerTable.tabulate fun t =>
                if s.tbs.stagedStatus.get t = .pending then .dirty else s.tbs.stagedStatus.get t
            grants := 0 }
        rlf :=
          { batch := []
            buffer :=
              [{ payload := answer, summary := summary, gap := false, check := frameCheck answer summary false }]
            waiting := []
            departing := recReady
            gap := false
            dropped := 0 }
        cmi := { reading := none, queue := [] } }
    State.takeCommand s { tag := tag, code := 0x14#8, args := [] } =
        after s.pins.resetHeld s.pins.calEn s.pins.recReady ∧
      ∀ l : Lines, s.takes → exec (.reset tag [] l) s = .next (after false l.calEn l.recReady)

/-! ### Head Link Receiver -/

/-- R2, R3, R16: a row that is the passing frame of a record: not received while RESET_N is asserted, counted and discarded in
HUNT, delivered in SYNC with the bad run at 0. That such a row can arrive in HUNT is log entry 8; that RESET_N is a flag which
these rows find is log entry 3. TABLE_STATE, SET_PROTECT and RESET bring the input lines to the levels they carry under RESET_N,
in HUNT and in SYNC too, where a REC_READY that has risen starts the oldest frame (State.atLines, log entry 2). The rows of
bytes: not received while RESET_N is asserted; in HUNT the second passing frame in a row moves the link to SYNC, and a failing
frame returns the good run to 0. At the end of each row the interpreter answers a finished read and goes on with its queue
(R186, settleRead, log entry 26). -/
def Obligations.FramesUnderTheLinkState : Prop :=
  (∀ (i : Instr) (r : Record) (o : Option Lines) (s : State), recordOf i = some (r, o) →
    let u := s.atLines o
    (s.pins.resetHeld = true → exec i s = .next u.settleRead) ∧
    (s.pins.resetHeld = false → s.hlr.link = .hunt → s.hlr.goodRun = 0 →
      exec i s = .next (State.settleRead { u with hlr := { s.hlr with goodRun := 1 } })) ∧
    (s.pins.resetHeld = false → s.hlr.link = .hunt → s.hlr.goodRun ≠ 0 →
      exec i s = .next (State.settleRead { u with hlr := { s.hlr with link := .sync, goodRun := 0, badRun := 0 } })) ∧
    (s.listens → exec i s = .next (State.deliver { u with hlr := { s.hlr with badRun := 0 } } r).settleRead)) ∧
  (∀ (bytes : List Byte) (s : State),
    (s.pins.resetHeld = true →
      exec (.frameCheckFail bytes) s = .next s.settleRead ∧ exec (.huntFrame bytes) s = .next s.settleRead ∧
        exec (.frameRefused bytes) s = .next s.settleRead) ∧
    (s.pins.resetHeld = false → s.hlr.link = .hunt →
      ((checkFrame bytes).isSome = true → s.hlr.goodRun = 0 →
        exec (.huntFrame bytes) s = .next (State.settleRead { s with hlr := { s.hlr with goodRun := 1 } })) ∧
      ((checkFrame bytes).isSome = true → s.hlr.goodRun ≠ 0 →
        exec (.huntFrame bytes) s = .next
          (State.settleRead { s with hlr := { s.hlr with link := .sync, goodRun := 0, badRun := 0 } })) ∧
      (checkFrame bytes = none →
        exec (.frameCheckFail bytes) s = .next (State.settleRead { s with hlr := { s.hlr with goodRun := 0 } }))))

/-- R3, R5, R7: in SYNC a frame that passes the check returns the bad run to 0 and goes to classification, which delivers it or
refuses it with FRAME_REJECT and counts it. That a FRAME_REFUSED row whose bytes classify delivers the record is log entry 9. R4:
a failing frame raises LINK_CRC, and the fourth in a row also loses the link and asks for a resync. -/
def Obligations.FramesInSync : Prop :=
  (∀ (bytes : List Byte) (kind : Byte) (payload : List Byte) (s : State), s.listens →
    checkFrame bytes = some (kind, payload) →
    (∀ r, classify s.variant kind payload = some r →
      exec (.frameRefused bytes) s = .next (State.deliver { s with hlr := { s.hlr with badRun := 0 } } r).settleRead) ∧
    (classify s.variant kind payload = none →
      exec (.frameRefused bytes) s = .next
        (State.settleRead
          { s with
            hlr :=
              { s.hlr with badRun := 0, rejected := if s.hlr.rejected < 65535 then s.hlr.rejected + 1 else s.hlr.rejected }
            flags := s.flags ||| Event.frameReject.bit }))) ∧
  ∀ (bytes : List Byte) (s : State), s.listens → checkFrame bytes = none →
    (s.hlr.badRun < 3 → exec (.frameCheckFail bytes) s = .next
      (State.settleRead
        { s with hlr := { s.hlr with badRun := s.hlr.badRun + 1 }, flags := s.flags ||| Event.linkCrc.bit })) ∧
    (3 ≤ s.hlr.badRun → exec (.frameCheckFail bytes) s = .next
      (State.askResync
        { s with
          hlr := { s.hlr with link := .hunt, goodRun := 0, badRun := 0 }
          flags := s.flags ||| Event.linkCrc.bit ||| Event.linkLost.bit } .linkLost).settleRead)

/-- R1: the check is the CRC-16 with generator 1021h from FFFFh, and bytes pass it exactly when they are a kind, a length, as
many payload bytes, the check of these and idle fill. R5, R6: a frame that passes is refused in exactly the cases listed, and
otherwise classified as the record of section 11.1 that its bytes spell, the two spare bits of an ECHO disregarded (R203). The
frame that the encoder writes for a well-formed record passes the check, is classified as that record, and acts on a P4C as the
record itself does; that a FRAME_REFUSED row which carries it acts as the record's own row, for the rows that sample no line, is
log entry 9. -/
def Obligations.FramesOfRecordsRoundTrip : Prop :=
  (crc16 [] = 0xFFFF#16 ∧ crc16 [0x00] = 0xE1F0#16 ∧
    crc16 [0x31, 0x32, 0x33, 0x34, 0x35, 0x36, 0x37, 0x38, 0x39] = 0x29B1#16 ∧
    ∀ (bs : List Byte) (b : Byte),
      let shift (c : BitVec 16) : BitVec 16 := if c.getLsbD 15 then (c <<< 1) ^^^ 0x1021#16 else c <<< 1
      crc16 (bs ++ [b]) = shift^[8] (crc16 bs ^^^ (b.setWidth 16 <<< 8))) ∧
  (∀ (bytes : List Byte) (kind : Byte) (payload : List Byte),
    let body := kind :: (beBytes 2 payload.length ++ payload)
    checkFrame bytes = some (kind, payload) ↔
      payload.length < 2 ^ 16 ∧ ∃ fill : List Byte, bytes = body ++ beBytes 2 (crc16 body).toNat ++ fill) ∧
  (∀ (v : Variant) (kind : Byte) (payload : List Byte),
    let k := kind.toNat
    let n := payload.length
    let field (i : Nat) : Nat := (payload.getD i 0).toNat
    let noKind := k < 1 ∨ 6 < k
    let wrongLength := k = 1 ∧ n ≠ 11 ∨ k = 2 ∧ n ≠ 8 ∨ k = 3 ∧ n ≠ 5 ∨ k = 4 ∧ n ≠ 4
    let noChannel := k = 4 ∧ n = 4 ∧ field 0 ≠ 1 ∧ field 0 ≠ 2
    let noCommand := k = 6 ∧ (n < 2 ∨ 1026 < n)
    let badTile :=
      n < 5 ∨ 2 < field 2 ∨ field 3 < 1 ∨ 32 < field 3 ∨ field 4 < 1 ∨ 64 < field 4 ∨
        n ≠ 5 + if field 2 = 0 then 3 * (field 3 * field 4) else 0
    (classify v kind payload = none ↔ noKind ∨ wrongLength ∨ noChannel ∨ noCommand ∨ k = 5 ∧ (v = .p4m ∨ badTile)) ∧
    ∀ r : Record, classify v kind payload = some r →
      r.wellFormed = true ∧ r.kind = kind ∧ (k ≠ 2 → r.payload = payload) ∧
        (k = 2 → r.payload = payload.take 7 ++ [payload.getD 7 0 &&& 0xFC#8])) ∧
  (∀ (t : Timestamp) (mirror azimuth : RawCount),
    (Record.fire t mirror azimuth).payload = beBytes 5 t.toNat ++ beBytes 3 mirror.toNat ++ beBytes 3 azimuth.toNat) ∧
  (∀ (t : Timestamp) (amplitude : BitVec 12) (width : BitVec 10),
    (Record.echo t amplitude width).payload =
      beBytes 5 t.toNat ++ beBytes 3 (amplitude.toNat * 2 ^ 12 + width.toNat * 2 ^ 2)) ∧
  (∀ t : Timestamp, (Record.tick t).payload = beBytes 5 t.toNat) ∧
  (∀ raw : RawCount,
    (Record.index .mirror raw).payload = 0x01#8 :: beBytes 3 raw.toNat ∧
      (Record.index .azimuth raw).payload = 0x02#8 :: beBytes 3 raw.toNat) ∧
  (∀ (number : BitVec 16) (status : TileStatus) (cols rows : Byte) (cells : List Rgb),
    (Record.tile number status cols rows cells).payload =
      beBytes 2 number.toNat ++ [match status with | .ok => 0x00#8 | .failed => 0x01#8 | .busy => 0x02#8, cols, rows] ++
        cells.flatMap fun c => [c.r, c.g, c.b]) ∧
  (∀ c : Command, (Record.cmd c).payload = c.tag :: c.code :: c.args) ∧
  ∀ (r : Record) (fill : List Byte), r.wellFormed = true →
    checkFrame (encodeFrame r ++ fill) = some (r.kind, r.payload) ∧
    classify .p4c r.kind r.payload = some r ∧
    ∀ s : State, s.variant = .p4c →
      s.receiveBytes (encodeFrame r ++ fill) = s.receiveRecord r ∧
      ∀ i : Instr, recordOf i = some (r, none) → exec (.frameRefused (encodeFrame r ++ fill)) s = exec i s

/-! ### Stream time -/

/-- R8, R10, R11: lead and lag decide the outcome of a comparison with stream time. -/
def Obligations.LeadAndLagDecideTheComparison : Prop :=
  ∀ (now t : Timestamp) (slack : Nat), slack ≤ 4095 →
    compareTime none slack t = .advance ∧
    (compareTime (some now) slack t = .same ↔ (t - now).toNat = 0) ∧
    (compareTime (some now) slack t = .advance ↔ 1 ≤ (t - now).toNat ∧ (t - now).toNat ≤ 2 ^ 39 - 1) ∧
    (compareTime (some now) slack t = .late ↔ 1 ≤ (now - t).toNat ∧ (now - t).toNat ≤ slack) ∧
    (compareTime (some now) slack t = .jump ↔ slack + 1 ≤ (now - t).toNat ∧ (now - t).toNat ≤ 2 ^ 39)

/-- R8 to R11, R14, R34, R56: a TICK, a FIRE and an ECHO are compared with stream time; an advance closes pulses and tests the
batch age first (what that test and a boundary notice do: DeparturesAndBatchAge, GenerationSwitchTakesThePendingTables), a jump
asks for a resync and goes no further. Otherwise a FIRE is tracked, its pulse considered and a sweep
boundary noticed by the Table Store, behind a gap at the read port (R118, log entry 13); an ECHO is handled by the Echo Assigner;
a TICK is complete. Last comes the answer of a read that the port requests finished (R121, R186).
R44, R41: the pulse is discarded in STOPPED and DRAINING; in WAITING the conditions are tested first, and it is judged as in
RUNNING when they hold. R56: an echo is decided in RUNNING and DRAINING after its port requests, whose number is log entry 12,
and discarded in STOPPED and WAITING. -/
def Obligations.TimedRecordsAreHandledInOrder : Prop :=
  (∀ (t : Timestamp) (s : State), s.listens →
    let s0 := s.passed
    let now : State := { s0 with hlr := { s0.hlr with streamTime := some t } }
    (compareTime s.hlr.streamTime s.params.timeSlack t = .advance →
      exec (.tick t) s = .next now.closing.batchAgeTest.settleRead) ∧
    (compareTime s.hlr.streamTime s.params.timeSlack t = .same → exec (.tick t) s = .next s0.settleRead) ∧
    (compareTime s.hlr.streamTime s.params.timeSlack t = .late → exec (.tick t) s = .next s0.settleRead) ∧
    (compareTime s.hlr.streamTime s.params.timeSlack t = .jump →
      exec (.tick t) s = .next (now.askResync .timeJump).settleRead)) ∧
  (∀ (t : Timestamp) (mirror azimuth : RawCount) (s : State), s.listens →
    let s0 := s.passed
    let now : State := { s0 with hlr := { s0.hlr with streamTime := some t } }
    let handled (u : State) : State :=
      let k := u.track mirror azimuth
      if k.2.boundary then (k.1.considerPulse t k.2).portGap.boundaryNotice else k.1.considerPulse t k.2
    (compareTime s.hlr.streamTime s.params.timeSlack t = .advance →
      exec (.fire t mirror azimuth) s = .next (handled now.closing.batchAgeTest).settleRead) ∧
    (compareTime s.hlr.streamTime s.params.timeSlack t = .same →
      exec (.fire t mirror azimuth) s = .next (handled s0).settleRead) ∧
    (compareTime s.hlr.streamTime s.params.timeSlack t = .late →
      exec (.fire t mirror azimuth) s = .next (handled s0).settleRead) ∧
    (compareTime s.hlr.streamTime s.params.timeSlack t = .jump →
      exec (.fire t mirror azimuth) s = .next (now.askResync .timeJump).settleRead)) ∧
  (∀ (t : Timestamp) (amplitude : BitVec 12) (width : BitVec 10) (s : State), s.listens →
    let s0 := s.passed
    let now : State := { s0 with hlr := { s0.hlr with streamTime := some t } }
    (compareTime s.hlr.streamTime s.params.timeSlack t = .advance →
      exec (.echo t amplitude width) s = .next (now.closing.batchAgeTest.handleEcho t amplitude width).settleRead) ∧
    (compareTime s.hlr.streamTime s.params.timeSlack t = .same →
      exec (.echo t amplitude width) s = .next (s0.handleEcho t amplitude width).settleRead) ∧
    (compareTime s.hlr.streamTime s.params.timeSlack t = .late →
      exec (.echo t amplitude width) s = .next (s0.handleEcho t amplitude width).settleRead) ∧
    (compareTime s.hlr.streamTime s.params.timeSlack t = .jump →
      exec (.echo t amplitude width) s = .next (now.askResync .timeJump).settleRead)) ∧
  (∀ (u : State) (t : Timestamp) (h : Handoff),
    (u.emq.run = .stopped ∨ u.emq.run = .draining → u.considerPulse t h = u) ∧
    (u.emq.run = .running → u.considerPulse t h = u.judgePulse t h) ∧
    (u.emq.run = .waiting → ¬u.ready → u.considerPulse t h = u) ∧
    (u.emq.run = .waiting → u.ready →
      u.considerPulse t h =
        State.judgePulse
          { u with
            emq := { u.emq with run := .running }
            flags := u.flags ||| Event.streamStarted.bit
            exu := if u.variant = .p4c then { u.exu with seek := true } else u.exu } t h)) ∧
  ∀ (u : State) (t : Timestamp) (amplitude : BitVec 12) (width : BitVec 10),
    (u.emq.run = .stopped ∨ u.emq.run = .waiting → u.handleEcho t amplitude width = u) ∧
    (u.emq.run = .running ∨ u.emq.run = .draining →
      u.handleEcho t amplitude width =
          (State.pipelineRequests (u.echoRequests t amplitude.toNat) u).decideEcho t amplitude width ∧
        (u.cmi.reading = none → u.handleEcho t amplitude width = u.decideEcho t amplitude width))

/-! ### Angle Tracker -/

/-- R20 with R17: an INDEX at an UNLOCKED channel sets the reference, in every run state. R21: elsewhere, an INDEX within the
margin of the reference changes nothing; one beyond it raises INDEX_SLIP, restarts the channel on the new reference and asks for
a resync. R21 abandons the last valid count and the step at a slip; that their fields keep the values held until the next
samples write them is log entry 16. Each channel has its own widths, margins and limits (section 2.2). The bad run is 0 after
any passing frame (R3). -/
def Obligations.IndexIsHeldAgainstTheReference : Prop :=
  (∀ p : Params,
    p.bits .mirror = p.mirrorBits ∧ p.bits .azimuth = p.azBits ∧ p.margin .mirror = p.mirrorIndexMargin ∧
      p.margin .azimuth = p.azIndexMargin ∧ p.limit .mirror = p.mirrorVarLimit ∧ p.limit .azimuth = p.azVarLimit) ∧
  (∀ (a : Ant) (c : Channel),
    a.channel .mirror = a.mirror ∧ a.channel .azimuth = a.azimuth ∧ a.setChannel .mirror c = { a with mirror := c } ∧
      a.setChannel .azimuth c = { a with azimuth := c }) ∧
  ∀ (id : ChannelId) (raw : RawCount) (s : State), s.listens →
    let channel := s.ant.channel id
    let count := raw.toNat % 2 ^ s.params.bits id
    let off := (signedMod (s.params.bits id) ((count : Int) - (channel.ref : Int))).natAbs
    let restarted : State :=
      { s with
        hlr := { s.hlr with badRun := 0 }
        ant :=
          s.ant.setChannel id
            { channel with state := .acquiring, ref := count, samples := 0, rejectRun := 0, goodRun := 0 } }
    (channel.state = .unlocked → exec (.index id raw) s = .next restarted.settleRead) ∧
    (channel.state ≠ .unlocked → off ≤ s.params.margin id → exec (.index id raw) s = .next s.passed.settleRead) ∧
    (channel.state ≠ .unlocked → s.params.margin id < off →
      exec (.index id raw) s = .next
        (State.askResync { restarted with flags := s.flags ||| Event.indexSlip.bit }
          (match id with
          | .mirror => .mirrorRefLost
          | .azimuth => .azRefLost)).settleRead)

/-- R22 to R25: one sample in each channel state, and runs of samples. UNLOCKED disregards it; the two samples of ACQUIRING set
the last valid count and the step; a valid sample re-estimates the step over the rejected ones by floor division; a rejected one
keeps both and uses the prediction. That the first sample of ACQUIRING keeps the step held, which R22 calls unknown there, and
that the acquisition samples keep their value at the move to TRACKING, is the model's choice (log entry 16). From TRACKING, one
to seven rejected samples in a row hold the channel on its extrapolated count and the eighth puts it in FAULT; from FAULT, the
fourth valid sample in a row returns it to TRACKING. -/
def Obligations.EightRejectedSamplesMakeAFault : Prop :=
  (∀ (c : Channel) (bits limit x : Nat),
    let n : Int := (c.rejectRun : Int) + 1
    let predicted := (((c.last : Int) + c.step * n) % (2 ^ bits : Int)).toNat
    let accepted := (signedMod bits ((x : Int) - (predicted : Int))).natAbs ≤ limit
    let valid : Channel :=
      { c with step := signedMod bits ((x : Int) - (c.last : Int)) / n, last := x, rejectRun := 0, used := x }
    let rejected : Channel := { c with rejectRun := min 255 (c.rejectRun + 1), used := predicted }
    (c.accepts bits limit x = true ↔ accepted) ∧
    (c.state = .unlocked → c.sample bits limit x = (c, .quiet)) ∧
    (c.state = .acquiring → c.samples = 0 →
      c.sample bits limit x = ({ c with last := x, samples := 1, used := x }, .quiet)) ∧
    (c.state = .acquiring → c.samples ≠ 0 →
      c.sample bits limit x =
        ({ c with
            state := .tracking, step := signedMod bits ((x : Int) - (c.last : Int)), last := x, rejectRun := 0, used := x },
          .quiet)) ∧
    (c.state = .tracking ∨ c.state = .holding → accepted →
      c.sample bits limit x = ({ valid with state := .tracking }, .quiet)) ∧
    (c.rejectRun ≤ 255 → c.state = .tracking → ¬accepted →
      c.sample bits limit x = ({ rejected with state := .holding }, .hold)) ∧
    (c.state = .holding → c.rejectRun + 1 < 8 → ¬accepted → c.sample bits limit x = (rejected, .quiet)) ∧
    (c.rejectRun ≤ 255 → c.state = .holding → 8 ≤ c.rejectRun + 1 → ¬accepted →
      c.sample bits limit x = ({ rejected with state := .fault, goodRun := 0 }, .fault)) ∧
    (c.state = .fault → accepted → c.goodRun + 1 < 4 →
      c.sample bits limit x = ({ valid with goodRun := c.goodRun + 1 }, .quiet)) ∧
    (c.state = .fault → accepted → 4 ≤ c.goodRun + 1 →
      c.sample bits limit x = ({ valid with state := .tracking, goodRun := 0 }, .quiet)) ∧
    (c.rejectRun ≤ 255 → c.state = .fault → ¬accepted →
      c.sample bits limit x = ({ rejected with goodRun := 0 }, .quiet))) ∧
  ∀ (c : Channel) (bits limit : Nat) (xs : List Nat),
    let run (c : Channel) (xs : List Nat) : Channel := xs.foldl (fun c x => (c.sample bits limit x).1) c
    (c.state = .tracking → c.rejectRun = 0 → 1 ≤ xs.length → xs.length ≤ 8 →
      (∀ (k x : Nat), xs[k]? = some x →
        limit < (signedMod bits ((x : Int) - ((c.last : Int) + c.step * ((k : Int) + 1)))).natAbs) →
      run c xs =
        { c with
          state := if xs.length < 8 then .holding else .fault
          rejectRun := xs.length
          goodRun := if xs.length < 8 then c.goodRun else 0
          used := (((c.last : Int) + c.step * (xs.length : Int)) % (2 ^ bits : Int)).toNat }) ∧
    (c.state = .fault → c.goodRun = 0 → xs.length ≤ 4 →
      (∀ (k x : Nat), xs[k]? = some x → (run c (xs.take k)).accepts bits limit x = true) →
      (run c xs).state = (if xs.length < 4 then .fault else .tracking) ∧
      (run c xs).goodRun = if xs.length < 4 then xs.length else 0)

/-- 00_scope: a value signed modulo 2^B is the congruent one in the signed range of B bits. R27 to R31: the angles as the rules
form them, and their ranges: the raw angle is the count used from the reference, scaled to 24 bits; the correction interpolates
between two entries, rounded half up; the facet is the corrected angle's place among Facets spans, the elevation is saturated,
and AzSign −1 negates the azimuth modulo 2^24. A channel that is UNLOCKED forms none. -/
def Obligations.AnglesStayInRange : Prop :=
  (∀ (bits : Nat) (v : Int), 1 ≤ bits →
    -(2 ^ (bits - 1)) ≤ signedMod bits v ∧ signedMod bits v < 2 ^ (bits - 1) ∧ (2 ^ bits : Int) ∣ v - signedMod bits v) ∧
  (∀ (c : Channel) (bits : Nat), bits ≤ 24 →
    c.rawAngle bits = (((c.used : Int) - (c.ref : Int)) % (2 ^ bits : Int)).toNat * 2 ^ (24 - bits) ∧
      c.rawAngle bits < 2 ^ 24) ∧
  (∀ (table : List Int) (r : Nat),
    correctedAngle table r = (((r : Int) + correction table r) % (2 ^ 24 : Int)).toNat ∧ correctedAngle table r < 2 ^ 24) ∧
  (∀ (table : List Int) (r : Nat), r < 2 ^ 24 →
    let e0 := table.getD (r / 65536) 0
    let e1 := table.getD ((r / 65536 + 1) % 256) 0
    correction table r = e0 + ((e1 - e0) * ((r % 65536 : Nat) : Int) + 32768) / 65536 ∧
    min e0 e1 ≤ correction table r ∧ correction table r ≤ max e0 e1 ∧ (r % 65536 = 0 → correction table r = e0)) ∧
  (∀ (b : Bank) (p : Params) (c : Channel),
    (c.state = .unlocked → mirrorAngles b p c = none ∧ azimuthAngle b p c = none) ∧
    (c.state ≠ .unlocked →
      let angle := correctedAngle b.elevCorr (c.rawAngle p.mirrorBits)
      let span := 2 ^ 24 / p.facets
      let entry : FacetEntry := b.facet.getD (angle / span) { offset := 0, enable := false }
      let raised := (p.deflection : Int) * (((angle % span : Nat) : Int) - ((span / 2 : Nat) : Int)) + entry.offset
      mirrorAngles b p c =
          some
            { facet := angle / span, elevation := max (-(2 ^ 23)) (min (2 ^ 23 - 1) raised), enable := entry.enable } ∧
        azimuthAngle b p c =
          some
            (match p.azSign with
            | .plus => BitVec.ofNat 24 (correctedAngle b.azCorr (c.rawAngle p.azBits))
            | .minus => BitVec.ofNat 24 (2 ^ 24 - correctedAngle b.azCorr (c.rawAngle p.azBits))))) ∧
  (∀ (b : Bank) (p : Params) (c : Channel) (m : MirrorAngles), p.inRange → mirrorAngles b p c = some m →
    m.facet < p.facets ∧ -(2 ^ 23) ≤ m.elevation ∧ m.elevation ≤ 2 ^ 23 - 1) ∧
  ∀ a : Nat, azimuthOf .plus a + azimuthOf .minus a = 0

/-- R33: a formed facet that differs from a set last facet is a boundary and counts one sweep; a first facet, an equal one and
no facet are none. R24, R26: one sample of a FIRE writes its channel; the first rejection from TRACKING raises MIRROR_HOLD or
AZ_HOLD, and the eighth in a row raises ANGLE_FAULT and asks for a resync; no other sample raises anything. R14, R26, R32: a
FIRE's mirror sample is handled whole before its azimuth sample. The port requests ahead of the samples, 3 for a mirror and 2
for an azimuth channel that is not UNLOCKED, are the model's count (log entry 12). Then the angles are formed from the tables
ACTIVE as the FIRE arrives (log entry 14), the sweep is counted, and the tracker hands on the angles and the boundary. -/
def Obligations.TrackerHandlesAFire : Prop :=
  (∀ (a : Ant) (f : Nat),
    (∀ l, a.lastFacet = some l → l ≠ f →
      isBoundary a.lastFacet (some f) = true ∧
        a.countSweep (some f) = { a with lastFacet := some f, sweep := a.sweep + 1 }) ∧
    (a.lastFacet = some f → isBoundary a.lastFacet (some f) = false ∧ a.countSweep (some f) = a) ∧
    (a.lastFacet = none →
      isBoundary a.lastFacet (some f) = false ∧ a.countSweep (some f) = { a with lastFacet := some f }) ∧
    isBoundary a.lastFacet none = false ∧ a.countSweep none = a) ∧
  (∀ (s : State) (id : ChannelId) (raw : RawCount),
    let c := s.ant.channel id
    let bits := s.params.bits id
    let x := raw.toNat % 2 ^ bits
    let predicted := (((c.last : Int) + c.step * ((c.rejectRun : Int) + 1)) % (2 ^ bits : Int)).toNat
    let limit := s.params.limit id
    let rejected := limit < (signedMod bits ((x : Int) - (predicted : Int))).natAbs
    let after : State := { s with ant := s.ant.setChannel id (c.sample bits limit x).1 }
    let held := match id with
      | .mirror => Event.mirrorHold.bit
      | .azimuth => Event.azHold.bit
    let reason := match id with
      | .mirror => ResyncReason.mirrorRefLost
      | .azimuth => ResyncReason.azRefLost
    (c.state = .tracking → rejected →
      s.handleSample id raw = { after with flags := s.flags ||| held }) ∧
    (c.state = .holding → rejected → 8 ≤ c.rejectRun + 1 →
      s.handleSample id raw = State.askResync { after with flags := s.flags ||| Event.angleFault.bit } reason) ∧
    (¬(c.state = .tracking ∧ rejected) → ¬(c.state = .holding ∧ rejected ∧ 8 ≤ c.rejectRun + 1) →
      s.handleSample id raw = after)) ∧
  ∀ (s : State) (mirror azimuth : RawCount),
    let requests := (if s.ant.mirror.state = .unlocked then 0 else 3) + if s.ant.azimuth.state = .unlocked then 0 else 2
    let sampled := ((State.pipelineRequests requests s).handleSample .mirror mirror).handleSample .azimuth azimuth
    let angles := mirrorAngles s.tbs.bankActive sampled.params sampled.ant.mirror
    let facet := angles.map MirrorAngles.facet
    s.track mirror azimuth =
      ({ sampled with ant := sampled.ant.countSweep facet },
        { mirror := angles
          azimuth := azimuthAngle s.tbs.bankActive sampled.params sampled.ant.azimuth
          boundary := isBoundary sampled.ant.lastFacet facet })

/-! ### Emission Queue -/

/-- R45 to R47, R38: the pulse of a FIRE in RUNNING: discarded, refused with FRAME_REJECT, or appended at the tail after the
eviction that a full queue asks for and the Exposure Unit's work. R27, R45: a hand-off without angles or without azimuth, of an
UNLOCKED channel, is discarded. A channel is usable in TRACKING and HOLDING, and a fire time passes when the queue is empty or it
lies strictly after that of the tail. -/
def Obligations.PulseIsAcceptedAtTheTail : Prop :=
  (∀ (s : State) (t : Timestamp) (h : Handoff), h.mirror = none ∨ h.azimuth = none → s.judgePulse t h = s) ∧
  (∀ c : Channel, c.usable = true ↔ c.state = .tracking ∨ c.state = .holding) ∧
  (∀ (q : Emq) (t : Timestamp),
    q.laterThanTail t = true ↔ ∀ p ∈ q.queue.getLast?, 1 ≤ (t - p.tFire).toNat ∧ (t - p.tFire).toNat < 2 ^ 39) ∧
  ∀ (s : State) (t : Timestamp) (m : MirrorAngles) (azimuth : Azimuth) (boundary : Bool),
    let h : Handoff := { mirror := some m, azimuth := some azimuth, boundary := boundary }
    let usable := s.ant.mirror.usable && s.ant.azimuth.usable && m.enable
    (usable = false → s.judgePulse t h = s) ∧
    (usable = true → s.emq.laterThanTail t = false →
      s.judgePulse t h =
        { s with
          hlr := { s.hlr with rejected := if s.hlr.rejected < 65535 then s.hlr.rejected + 1 else s.hlr.rejected }
          flags := s.flags ||| Event.frameReject.bit }) ∧
    (usable = true → s.emq.laterThanTail t = true →
      let room := if 128 ≤ s.emq.queue.length then s.evictHead else s
      let w := room.exposureWork { tFire := t, azimuth := azimuth, elevation := m.elevation }
      let pulse : Pulse :=
        { seq := s.emq.accepted, tFire := t, elevation := m.elevation, azimuth := azimuth, facet := m.facet
          sweep := s.ant.sweep, gen := room.tbs.generation, elevHeld := decide (s.ant.mirror.state = .holding)
          azHeld := decide (s.ant.azimuth.state = .holding), echoOverflow := false, colour := w.2, echoes := [] }
      s.judgePulse t h =
        { w.1 with
          emq := { room.emq with queue := room.emq.queue ++ [pulse], accepted := s.emq.accepted + 1 } })

/-- R46, R49, R95: an eviction closes the head pulse as evicted, so that its records carry EVICTED (ClosedPulseYieldsItsRecords,
ClosesPassTheirRecords), raises QUEUE_EVICT and counts it, whichever of the event and the frames of the close comes first (log
entry 5). R48, R49: PULSE_CLOSE closes a head pulse whose age exceeds the ListenTicks of its generation: its echo entries return
to the pool, Closed counts it, and the last one in DRAINING ends the run. The row on a head that still listens, or on an empty
queue, closes nothing (log entry 10). A pulse has expired only when stream time is set, so that with stream time unset
PULSE_CLOSE closes nothing: log entry 28. The one port request ahead of its test is log entry 12. R48, R9: an advance of stream
time closes expired pulses from the head and stops at the first that still listens. -/
def Obligations.HeadIsEvictedOrClosed : Prop :=
  (∀ (s : State) (p : Pulse),
    s.expired p = true ↔
      ∃ now : Timestamp, s.hlr.streamTime = some now ∧ (s.bankFor p).listenTicks < (now - p.tFire).toNat) ∧
  (∀ s : State, ∃ k : Nat, k ≤ s.emq.queue.length ∧
    s.closing.emq.queue = s.emq.queue.drop k ∧
    s.closing.emq.closed = s.emq.closed + BitVec.ofNat 32 k ∧
    (∀ p ∈ s.emq.queue.take k, s.expired p = true) ∧
    (∀ p ∈ s.closing.emq.queue.head?, s.expired p = false) ∧
    s.closing.eca.free + heldEchoes s.closing.emq.queue = s.eca.free + heldEchoes s.emq.queue) ∧
  (∀ s : State, ∃ first : Bool,
    let told : State := if first then { s with flags := s.flags ||| Event.queueEvict.bit } else s
    let closed := State.closeHead { told with freeCount := s.freeCount + 1 } true
    s.evictHead =
      { closed with
        flags := closed.flags ||| Event.queueEvict.bit
        emq :=
          { closed.emq with
            evicted := if closed.emq.evicted < 65535 then closed.emq.evicted + 1 else closed.emq.evicted } }) ∧
  (∀ (s : State) (p : Pulse) (rest : List Pulse), s.emq.run = .running → s.emq.queue = p :: rest →
    let t := s.evictHead
    t.emq =
        { s.emq with
          queue := rest
          closed := s.emq.closed + 1
          lastClosed := some p.seq
          evicted := if s.emq.evicted < 65535 then s.emq.evicted + 1 else s.emq.evicted } ∧
      t.eca = { s.eca with free := s.eca.free + p.echoes.length } ∧
      t.hasEvent .queueEvict = true ∧
      t.hlr = s.hlr ∧ t.ant = s.ant ∧ t.exu = s.exu ∧ t.params = s.params ∧ t.pins = s.pins ∧ t.variant = s.variant) ∧
  (∀ s : State,
    (∀ (p : Pulse) (rest : List Pulse) (now : Timestamp), s.emq.queue = p :: rest → s.hlr.streamTime = some now →
      (s.bankFor p).listenTicks < (now - p.tFire).toNat →
      exec .pulseClose s = .next (s.pipelineRequest.closeHead false).settleRead ∧
      (s.cmi.reading = none →
        ∃ t : State, exec .pulseClose s = .next t.settleRead ∧
          t.emq =
            { s.emq with
              run := if s.emq.run = .draining ∧ rest = [] then .stopped else s.emq.run
              queue := rest
              closed := s.emq.closed + 1
              lastClosed := some p.seq } ∧
          t.eca = { s.eca with free := s.eca.free + p.echoes.length } ∧
          t.ptf = { lastSweep := some p.sweep } ∧
          t.hlr = s.hlr ∧ t.ant = s.ant ∧ t.params = s.params ∧ t.pins = s.pins)) ∧
    (∀ (p : Pulse) (rest : List Pulse), s.emq.queue = p :: rest → s.expired p = false →
      exec .pulseClose s = .next s.pipelineRequest.settleRead) ∧
    (s.emq.queue = [] → exec .pulseClose s = .next s.settleRead))

/-- R49, R83, R99, R100: a close removes the head pulse, passes it to the Point Former, frees its echo entries, counts it and
tests for the end of a drain. The Point Former makes the sweep test, reads the policy of the pulse's generation, and passes the
pulse's records one at a time, in order, each through the Trigger Unit and into the open batch. R170: the 32nd record placed
closes the batch, which is offered as a PTS. That the one port request of a close stands behind the sweep test is log entry 12;
that a pulse of a third generation reads the RETIRING bank is log entry 15. -/
def Obligations.ClosesPassTheirRecords : Prop :=
  (∀ (s : State) (p : Pulse) (rest : List Pulse) (evicted : Bool), s.emq.queue = p :: rest →
    let formed := State.formPoints { s with emq := { s.emq with queue := rest } } p evicted
    let counted : State :=
      { formed with
        eca := { formed.eca with free := formed.eca.free + p.echoes.length }
        emq := { formed.emq with closed := formed.emq.closed + 1, lastClosed := some p.seq } }
    (counted.emq.run = .draining → counted.emq.queue = [] → s.closeHead evicted = counted.enterStopped) ∧
    (¬(counted.emq.run = .draining ∧ counted.emq.queue = []) → s.closeHead evicted = counted)) ∧
  (∀ (s : State) (p : Pulse) (evicted : Bool),
    let tested := (s.sweepTest p).pipelineRequest
    let b := if p.gen = s.tbs.generation then s.tbs.bankActive else s.tbs.retiring
    let policy : PolicyEntry := b.echoPolicy.getD 0 (zeroEntry .echoPolicy)
    s.formPoints p evicted = (pulseRecords policy p evicted).foldl State.passRecord tested ∧
      (s.cmi.reading = none →
        s.formPoints p evicted = (pulseRecords policy p evicted).foldl State.passRecord (s.sweepTest p))) ∧
  ∀ (s : State) (r : PointRecord),
    let handled := s.triggerPass r
    let batch := handled.1.rlf.batch ++ [handled.2]
    (batch.length ≠ 32 → s.passRecord r = { handled.1 with rlf := { handled.1.rlf with batch := batch } }) ∧
    (batch.length = 32 →
      s.passRecord r = State.offer { handled.1 with rlf := { handled.1.rlf with batch := [] } } (.pts batch))

/-- R4, R11, R21, R24: a resync asked for is made in RUNNING and DRAINING, and none in STOPPED and WAITING. R51 to R55: RESYNC
is answered OK in every run state; the queue is flushed without points, its entries return to the pool, the Zone Track is
zeroed, the marker carries the count removed, and the run state ends as R52 says. -/
def Obligations.ResyncFlushesTheQueue : Prop :=
  (∀ (s : State) (reason : ResyncReason),
    (s.emq.run = .running ∨ s.emq.run = .draining → s.askResync reason = s.doResync reason) ∧
    (s.emq.run = .stopped ∨ s.emq.run = .waiting → s.askResync reason = s)) ∧
  (∀ (tag : Byte) (s : State), s.takes →
    exec (.resync tag []) s = .next ((s.passed.doResync .command).respond tag 0x0F#8 .ok [])) ∧
  ∀ (s : State) (reason : ResyncReason),
    let flushed : State :=
      { s with
        emq :=
          { s.emq with
            queue := [], flushed := s.emq.flushed + BitVec.ofNat 32 s.emq.queue.length, lastResync := some reason }
        eca := { s.eca with free := s.eca.free + heldEchoes s.emq.queue, zoneTrack := List.replicate 64 0 }
        flags := s.flags ||| Event.resync.bit }
    let marked := flushed.offerMarker (.rsy reason s.emq.queue.length s.emq.lastClosed)
    let keeps := reason = .command ∨ reason = .timeJump
    (s.emq.run = .running → keeps → s.doResync reason = marked) ∧
    (s.emq.run = .running → ¬keeps →
      s.doResync reason = { marked with emq := { flushed.emq with run := .waiting } }) ∧
    (s.emq.run = .draining → s.doResync reason = marked.enterStopped) ∧
    (s.emq.run = .stopped ∨ s.emq.run = .waiting → s.doResync reason = marked)

/-- R40: START in STOPPED leads to WAITING, and to RUNNING in the same execution when the conditions of R41 hold, with
STREAM_STARTED and the notice to the Exposure Unit; in the other run states it is refused with WRONG_STATE. R42: STOP drains a
queue with open pulses, ends the run at once on an empty one and in WAITING, changes nothing in STOPPED and is refused in
DRAINING. -/
def Obligations.StartAndStop : Prop :=
  (∀ (tag : Byte) (s : State), s.takes →
    (s.emq.run = .stopped → ¬s.ready →
      exec (.start tag []) s = .next
        (State.respond { s.passed with emq := { s.emq with run := .waiting } } tag 0x0D#8 .ok [])) ∧
    (s.emq.run = .stopped → s.ready →
      exec (.start tag []) s = .next
        (State.respond
          { s.passed with
            emq := { s.emq with run := .running }
            flags := s.flags ||| Event.streamStarted.bit
            exu := if s.variant = .p4c then { s.exu with seek := true } else s.exu } tag 0x0D#8 .ok [])) ∧
    (s.emq.run ≠ .stopped → exec (.start tag []) s = .next (s.passed.respond tag 0x0D#8 .wrongState []))) ∧
  ∀ (tag : Byte) (s : State), s.takes →
    (s.emq.run = .running → s.emq.queue ≠ [] →
      exec (.stop tag []) s = .next
        (State.respond { s.passed with emq := { s.emq with run := .draining } } tag 0x0E#8 .ok [])) ∧
    (s.emq.run = .running → s.emq.queue = [] →
      exec (.stop tag []) s = .next (s.passed.enterStopped.respond tag 0x0E#8 .ok [])) ∧
    (s.emq.run = .waiting → exec (.stop tag []) s = .next (s.passed.enterStopped.respond tag 0x0E#8 .ok [])) ∧
    (s.emq.run = .stopped → exec (.stop tag []) s = .next (s.passed.respond tag 0x0E#8 .ok [])) ∧
    (s.emq.run = .draining → exec (.stop tag []) s = .next (s.passed.respond tag 0x0E#8 .wrongState []))

/-- R41, R43: the two moves of the run state that no command makes, and what an entry to STOPPED does, in order;
before the switch stands a gap at the read port (R118, log entry 13). The rows leave the state alone where their condition does
not hold (log entry 10). -/
def Obligations.RunStateMovesByItself : Prop :=
  ∀ s : State,
    (s.emq.run = .waiting → s.ready →
      exec .streamStarted s = .next
        (State.settleRead
          { s with
            emq := { s.emq with run := .running }
            flags := s.flags ||| Event.streamStarted.bit
            exu := if s.variant = .p4c then { s.exu with seek := true } else s.exu })) ∧
    (¬(s.emq.run = .waiting ∧ s.ready) → exec .streamStarted s = .next s.settleRead) ∧
    (s.emq.run = .draining → s.emq.queue = [] → exec .drainEnd s = .next s.enterStopped.settleRead) ∧
    (¬(s.emq.run = .draining ∧ s.emq.queue = []) → exec .drainEnd s = .next s.settleRead) ∧
    ∃ pending : Bool, (pending = true ↔ ∃ t : TableId, s.tbs.stagedStatus.get t = .pending) ∧
    (let stopped : State :=
      { s with emq := { s.emq with run := .stopped }, flags := s.flags ||| Event.streamStopped.bit }
     let switched := if pending then stopped.portGap.generationSwitch else stopped
     let captured : State :=
      if s.tru.capState = .filling then
        { switched with
          tru := { s.tru with capState := .full, toGo := 0 }
          flags := switched.flags ||| Event.captureFull.bit }
      else switched
     s.enterStopped = captured.closeBatch)

/-! ### Echo Assigner and ranges -/

/-- R104: a pulse is served by the ACTIVE bank while its generation is the current one and by the RETIRING bank in the one
before; that a pulse of any third generation, which R104 says does not exist, reads the RETIRING bank too is log entry 15.
ListenTicks is entry 4 of its RANGE_CONST. R57, R58: the candidates are exactly the open pulses that pass the two tests, the
youngest first, numbered from zone 0. -/
def Obligations.CandidatesAreNumberedFromTheYoungest : Prop :=
  (∀ (s : State) (p : Pulse),
    s.bankFor p = (if p.gen = s.tbs.generation then s.tbs.bankActive else s.tbs.retiring) ∧
      (s.bankFor p).listenTicks = ((s.bankFor p).rangeConst.getD 4 0).toNat) ∧
  ∀ (s : State) (te : Timestamp),
    let cs := s.candidates te
    cs.map Candidate.zone = List.range cs.length ∧
    cs.Pairwise (fun a b => b.place < a.place) ∧
    (∀ c ∈ cs, s.emq.queue[c.place]? = some c.pulse ∧ (te - c.pulse.tFire).toNat < 2 ^ 39 ∧
      (te - c.pulse.tFire).toNat ≤ (s.bankFor c.pulse).listenTicks) ∧
    ∀ (i : Nat) (p : Pulse), s.emq.queue[i]? = some p → (te - p.tFire).toNat < 2 ^ 39 →
      (te - p.tFire).toNat ≤ (s.bankFor p).listenTicks → ∃ c ∈ cs, c.place = i ∧ c.pulse = p

/-- R59, R60, R80: a candidate is acceptable when it has a range, that range lies in the global window and in its sector's
window, and its zone is at most the sector's MaxZone, all of its own generation. R61 to R63: no acceptable candidate makes an
orphan, one takes the echo, two or more count as ambiguous and are resolved by the policy of the youngest one's sector; the Zone
Track takes the zone chosen, before placement. That the one port request of a placement stands between the two is the model's
choice (log entry 12); that a pulse of a third generation reads the RETIRING bank is log entry 15. -/
def Obligations.AcceptableCandidatesDecideTheEcho : Prop :=
  (∀ (s : State) (te : Timestamp) (amplitude : Nat),
    s.acceptables te amplitude = (s.candidates te).filterMap (s.acceptable? te amplitude) ∧
    ∀ (c : Candidate) (a : Acceptable),
      let b := if c.pulse.gen = s.tbs.generation then s.tbs.bankActive else s.tbs.retiring
      let sector := ((c.pulse.elevation + 2 ^ 23) / 2 ^ 18).toNat
      let z : ZoneEntry := b.zonePlan.getD sector { rmin := 0, rmax := 0, maxZone := 0, policy := .nearest }
      s.acceptable? te amplitude c = some a ↔
        ∃ r : Int, rangeOf b te c.pulse.tFire amplitude = some r ∧
          ((b.rangeConst.getD 2 0).toNat : Int) ≤ r ∧ r ≤ ((b.rangeConst.getD 3 0).toNat : Int) ∧
          (z.rmin : Int) ≤ r ∧ r ≤ (z.rmax : Int) ∧ c.zone ≤ z.maxZone ∧ a = { cand := c, range := r }) ∧
  ∀ (s : State) (te : Timestamp) (amplitude : BitVec 12) (width : BitVec 10),
    (s.acceptables te amplitude.toNat = [] →
      s.decideEcho te amplitude width =
        { s with
          eca := { s.eca with orphans := s.eca.orphans + 1 }, flags := s.flags ||| Event.echoOrphan.bit }) ∧
    (∀ a, s.acceptables te amplitude.toNat = [a] → s.decideEcho te amplitude width = s.assignEcho a amplitude width) ∧
    (∀ a b rest, s.acceptables te amplitude.toNat = a :: b :: rest →
      let s1 : State := { s with eca := { s.eca with ambiguous := s.eca.ambiguous + 1 } }
      let policy := (sectorEntry (s.bankFor a.cand.pulse) a.cand.pulse).policy
      let tracked (x : Acceptable) : Bool :=
        decide (x.cand.zone = s.eca.zoneTrack.getD ((x.cand.pulse.elevation + 2 ^ 23) / 2 ^ 18).toNat 0)
      (policy = .nearest → s.decideEcho te amplitude width = s1.assignEcho a amplitude width) ∧
      (policy = .farthest →
        s.decideEcho te amplitude width = s1.assignEcho ((b :: rest).getLast (by simp)) amplitude width) ∧
      (policy = .track →
        s.decideEcho te amplitude width =
          s1.assignEcho (((a :: b :: rest).find? tracked).getD a) amplitude width) ∧
      (policy = .discard →
        s.decideEcho te amplitude width = { s1 with flags := s.flags ||| Event.echoAmbiguous.bit })) ∧
    ∀ a : Acceptable,
      let noted : State :=
        { s with
          eca :=
            { s.eca with zoneTrack := s.eca.zoneTrack.set ((a.cand.pulse.elevation + 2 ^ 23) / 2 ^ 18).toNat a.cand.zone } }
      s.assignEcho a amplitude width = noted.pipelineRequest.placeEcho a amplitude width ∧
        (s.cmi.reading = none → s.assignEcho a amplitude width = noted.placeEcho a amplitude width)

/-- R65, R66: placement keeps the list in increasing range, behind entries of equal range, within MaxEchoes; it takes one entry
of the pool only when the list grows, and every loss sets ECHO_OVERFLOW. The chosen pulse keeps its place in the queue with the
list after placement, the pool gives the entry taken, and a loss raises the ECHO_OVERFLOW event; that a loss under MaxEchoes 0
raises it too is log entry 30, and that a pulse of a third generation reads the RETIRING bank is log entry 15. -/
def Obligations.PlacementKeepsTheNearestEchoes : Prop :=
  (∀ (p : Pulse) (free maxEchoes : Nat) (x : EchoEntry),
    p.echoes.Pairwise (fun a b => a.range ≤ b.range) → p.echoes.length ≤ maxEchoes →
    let inserted :=
      p.echoes.takeWhile (fun y => y.range ≤ x.range) ++ x :: p.echoes.dropWhile (fun y => y.range ≤ x.range)
    let r := p.place free maxEchoes x
    r.1.echoes.Pairwise (fun a b => a.range ≤ b.range) ∧ r.1.echoes.length ≤ maxEchoes ∧
    (free = 0 → r = ({ p with echoOverflow := true }, false, true)) ∧
    (0 < free → p.echoes.length < maxEchoes → r = ({ p with echoes := inserted }, true, false)) ∧
    (0 < free → p.echoes.length = maxEchoes →
      r = ({ p with echoes := inserted.dropLast, echoOverflow := true }, false, true) ∧
      ∀ removed ∈ inserted.getLast?, ∀ y ∈ inserted, y.range ≤ removed.range)) ∧
  ∀ (s : State) (a : Acceptable) (amplitude : BitVec 12) (width : BitVec 10),
    let b := if a.cand.pulse.gen = s.tbs.generation then s.tbs.bankActive else s.tbs.retiring
    let x : EchoEntry := { amplitude := amplitude, width := width, range := a.range.toNat, zone := a.cand.zone }
    let placed := a.cand.pulse.place s.eca.free b.policy.maxEchoes x
    s.placeEcho a amplitude width =
      { s with
        emq := { s.emq with queue := s.emq.queue.set a.cand.place placed.1 }
        eca := { s.eca with free := if placed.2.1 then s.eca.free - 1 else s.eca.free }
        flags := if placed.2.2 then s.flags ||| Event.echoOverflow.bit else s.flags }

/-- R74 to R79: the conversion stops below the zero time, rounds half up, interpolates the walk between two entries, takes the
walk from the scaled range, and stays within the bounds that the manual derives from the ranges of the table fields. -/
def Obligations.RangesStayInBounds : Prop :=
  ∀ b : Bank,
    (∀ d : Int, 65536 * scaleRange b d ≤ d * b.k + 32768 ∧ d * b.k + 32768 < 65536 * (scaleRange b d + 1)) ∧
    (∀ a : Nat, a < 4032 →
      let e0 := b.walk.getD (a / 64) 0
      let e1 := b.walk.getD (a / 64 + 1) 0
      walkAt b a = e0 + ((e1 - e0) * ((a % 64 : Nat) : Int) + 32) / 64 ∧
      min e0 e1 ≤ walkAt b a ∧ walkAt b a ≤ max e0 e1 ∧ (a % 64 = 0 → walkAt b a = e0)) ∧
    (∀ a : Nat, 4032 ≤ a → walkAt b a = b.walk.getD 63 0) ∧
    ∀ (te tFire : Timestamp) (a : Nat),
      let d : Int := ((te - tFire).toNat : Int) - (b.rangeConst.getD 1 0).toInt
      (rangeOf b te tFire a = none ↔ ((te - tFire).toNat : Int) < b.z0) ∧
      (b.z0 ≤ ((te - tFire).toNat : Int) →
        rangeOf b te tFire a = some ((d * ((b.rangeConst.getD 0 0).toNat : Int) + 32768) / 65536 - walkAt b a)) ∧
      ∀ r : Int, rangeOf b te tFire a = some r → (te - tFire).toNat ≤ 2 ^ 23 → b.k ≤ 1700000 → -32768 ≤ b.z0 →
        (∀ w ∈ b.walk, -32768 ≤ w ∧ w ≤ 32767) → -32767 ≤ r ∧ r ≤ 218482768

/-! ### Point Former -/

/-- R84, R86 to R89: the echoes a policy chooses stand in the order of the acceptable set, their number is the policy's, the two
ends survive, ALL keeps the first m − 1 members and the last of a set of more than m (m is OutMax, 0 taken as 1), FIRST_LAST the
first and the last of a set of two or more, and STRONGEST keeps a member that none exceeds: of greatest amplitude, then of
smallest width, then of smallest or greatest range as TiePref says, and the first or the last of equals. -/
def Obligations.PoliciesChooseFromTheAcceptableSet : Prop :=
  (∀ (tie : TiePref) (x y : Placed),
    strongerThan tie x y = true ↔
      y.2.amplitude.toNat < x.2.amplitude.toNat ∨
        x.2.amplitude = y.2.amplitude ∧
          (x.2.width.toNat < y.2.width.toNat ∨
            x.2.width = y.2.width ∧
              (tie = .near ∧ x.2.range < y.2.range ∨ tie = .far ∧ y.2.range < x.2.range))) ∧
  (∀ (p : PolicyEntry) (a : List Placed),
    (chooseEchoes p a).Sublist a ∧
    (p.policy = .all → (chooseEchoes p a).length = min (max 1 p.outMax) a.length) ∧
    (p.policy = .firstLast → (chooseEchoes p a).length = min 2 a.length) ∧
    (p.policy = .all → a.length ≤ max 1 p.outMax → chooseEchoes p a = a) ∧
    (p.policy = .all → max 1 p.outMax < a.length →
      chooseEchoes p a = a.take (max 1 p.outMax - 1) ++ a.getLast?.toList) ∧
    (p.policy = .firstLast → a.length ≤ 1 → chooseEchoes p a = a) ∧
    (p.policy = .firstLast → 2 ≤ a.length → chooseEchoes p a = a.take 1 ++ a.getLast?.toList) ∧
    (p.policy = .first → chooseEchoes p a = a.take 1) ∧
    (p.policy = .last → chooseEchoes p a = a.getLast?.toList) ∧
    (p.policy = .strongest → chooseEchoes p a = (strongest p.tiePref a).toList) ∧
    (p.policy = .all ∨ p.policy = .firstLast ∨ p.policy = .last → (chooseEchoes p a).getLast? = a.getLast?) ∧
    (p.policy = .firstLast ∨ p.policy = .first ∨ p.policy = .all ∧ 2 ≤ p.outMax →
      (chooseEchoes p a).head? = a.head?)) ∧
  ∀ (tie : TiePref) (a : List Placed), a ≠ [] →
    ∃ x ∈ a, strongest tie a = some x ∧ (∀ y ∈ a, strongerThan tie y x = false) ∧
      (a.Pairwise (fun u v => u.1 < v.1) → ∀ y ∈ a, strongerThan tie x y = false →
        match tie with
        | .near => x.1 ≤ y.1
        | .far => y.1 ≤ x.1)

/-- R83, R85, R90 to R96: the acceptable set keeps the echoes that pass the three tests of R85, in list order. The records of a
closed pulse: one for each echo that the policy chooses, in the order chosen, with its position and the size of the set, TRIMMED
where fewer are chosen; a MISS record where none is acceptable and MissReport asks for one. R97, R159: a handled pulse of
another sweep offers an SWP marker behind the batch, notifies the Trigger Unit and sets LastSweep; a pulse of the same sweep
does nothing here. -/
def Obligations.ClosedPulseYieldsItsRecords : Prop :=
  (∀ (policy : PolicyEntry) (p : Pulse) (evicted : Bool),
    let a := p.echoes.filter fun e =>
      decide (policy.ampMin ≤ e.amplitude.toNat ∧ policy.widthMin ≤ e.width.toNat ∧ e.width.toNat ≤ policy.widthMax)
    let records := pulseRecords policy p evicted
    (a = [] → policy.missReport = false → records = []) ∧
    (a = [] → policy.missReport = true → ∃ r, records = [r] ∧
      r.miss = true ∧ r.echoIndex = 0 ∧ r.echoCount = 0 ∧ r.zone = 0 ∧ r.trimmed = false) ∧
    (a ≠ [] →
      records.map PointRecord.echoIndex = (chooseEchoes policy (withPositions a)).map Prod.fst ∧
      withPositions a = (List.range a.length).zipWith (fun i e => (i + 1, e)) a ∧
      records.length = (chooseEchoes policy (withPositions a)).length ∧ 1 ≤ records.length ∧
      records.Pairwise (fun u v => u.echoIndex < v.echoIndex) ∧
      ∀ r ∈ records, r.miss = false ∧ r.echoCount = a.length ∧ 1 ≤ r.echoIndex ∧ r.echoIndex ≤ a.length ∧
        (r.trimmed = true ↔ records.length < a.length) ∧
        ∃ e, a[r.echoIndex - 1]? = some e ∧ r.zone = e.zone ∧
          r.echo = some { range := e.range, amplitude := e.amplitude, width := e.width }) ∧
    ∀ r ∈ records, r.seq = p.seq ∧ r.tFire = p.tFire ∧ r.elevation = p.elevation ∧ r.azimuth = p.azimuth ∧
      r.facet = p.facet ∧ r.sweep = p.sweep.setWidth 16 ∧ r.colour = p.colour ∧ r.echoOverflow = p.echoOverflow ∧
      r.evicted = evicted ∧ r.elevHeld = p.elevHeld ∧ r.azHeld = p.azHeld ∧ r.mark = false) ∧
  (∀ (s : State) (p : Pulse),
    (s.ptf.lastSweep = some p.sweep → s.sweepTest p = s) ∧
    (s.ptf.lastSweep ≠ some p.sweep →
      let marked := s.closeBatch.offer (.swp p.sweep p.seq p.facet)
      s.sweepTest p =
        { marked with
          ptf := { lastSweep := some p.sweep }
          tru :=
            if s.tru.config.rearm = true ∧ (s.tru.state = .l1Hit ∨ s.tru.state = .l2Hit) then
              { s.tru with state := .waitL1, window := 0 }
            else s.tru
          flags := if s.tru.alertUnread then marked.flags ||| Event.trigHit.bit else marked.flags }))

/-- R201: numbers are sent most significant byte first, and the codes of sections 11.2, 11.4 and 6.1 and the event ids of
section 9.6 are the ones listed. Sections 11.2, 11.3, 11.5, R168, R169, R202, R204: every record, entry, payload and frame has
the length the layouts give, and its fields at their places. A point record: each field most significant byte first, the flags
in the bits of section 11.3, a range group of zeros in a MISS record and a colour group of zeros without colour. The payloads of
the six frame kinds, and a frame's header with its summary byte, GAP and length before the payload and the check after it. The
summary byte shows, in bit n, the flag that entry n of the select list names, and 0 for 31. The two bytes of plan entry and
station of an UNMATCHED TLR are a free value (log entry 31); that bits 7 to 2 of a TLR's indications are zero is log entry 32.
R204: the check is the CRC of R1 over the six header bytes and the payload. -/
def Obligations.LayoutsHaveTheirLengths : Prop :=
  (beNat [] = 0 ∧ (∀ (bs : List Byte) (b : Byte), beNat (bs ++ [b]) = 256 * beNat bs + b.toNat) ∧
    ∀ n v : Nat, (beBytes n v).length = n ∧ beNat (beBytes n v) = v % 256 ^ n) ∧
  ([ResultCode.ok, .unknownCommand, .notSupported, .badArgument, .wrongState, .busy, .tableProtected, .locked,
        .malformed].map ResultCode.code = List.range 9 ∧
    [TileOutcome.stored, .dropped, .unmatched, .failed, .busy, .timeout].map TileOutcome.code = [1, 2, 3, 4, 5, 6] ∧
    [none, some ResyncReason.command, some .timeJump, some .mirrorRefLost, some .azRefLost, some .linkLost].map
        resyncCode = List.range 6 ∧
    (∀ r : ResyncReason, resyncCode (some r) = r.code) ∧
    [RunState.stopped, .waiting, .running, .draining].map RunState.code = List.range 4 ∧
    [ChannelState.unlocked, .acquiring, .tracking, .holding, .fault].map ChannelState.code = List.range 5 ∧
    [LinkState.hunt, .sync].map LinkState.code = List.range 2 ∧
    [ActiveStatus.empty, .valid].map ActiveStatus.code = List.range 2 ∧
    [StagedStatus.clean, .dirty, .pending].map StagedStatus.code = List.range 3 ∧
    [ProtectMode.openMode, .line, .frozen].map ProtectMode.code = List.range 3 ∧
    [TriggerState.off, .waitL1, .l1Hit, .waitL2, .l2Hit].map TriggerState.code = List.range 5 ∧
    [CaptureState.empty, .filling, .full].map CaptureState.code = List.range 3 ∧
    (∀ n : Nat, flagOf n = [false, true][n]? ∧ protectModeOf n = [ProtectMode.openMode, .line, .frozen][n]? ∧
      readBankOf n = [ReadBank.staged, .active][n]?) ∧
    (let tables : List TableId :=
      [.rangeConst, .walk, .zonePlan, .echoPolicy, .elevCorr, .azCorr, .facet, .exposurePlan]
     (∀ n : Nat, tableOf n = tables[n]?) ∧ tables.map TableId.number = List.range 8 ∧
      tables.map TableId.entries = [5, 64, 64, 1, 256, 256, 8, 64] ∧
      tables.map TableId.entryLength = [4, 2, 10, 11, 2, 2, 3, 14]) ∧
    (let events : List Event :=
      [.reset, .streamStarted, .streamStopped, .resync, .linkCrc, .frameReject, .linkLost, .mirrorHold, .azHold,
        .indexSlip, .angleFault, .queueEvict, .echoOrphan, .echoAmbiguous, .echoOverflow, .commitDone, .exposureMissed,
        .tileTimeout, .tileFailed, .tileDropped, .trigL1, .trigHit, .captureFull, .outOverrun]
     ∀ (e : Event) (n : Nat), e.bit.getLsbD n = true ↔ events[n]? = some e)) ∧
  (∀ r : PointRecord, r.bytes.length = 32) ∧
  (∀ (t : TableId) (e : EntryOf t), (entryBytes t e).length = t.entryLength) ∧
  (∀ p : Payload, p.bytes.length = p.size) ∧
  (∀ f : OutFrame, f.bytes.length = f.payload.frameLength ∧ f.payload.frameLength = 8 + f.payload.bytes.length) ∧
  (∀ r : PointRecord,
    let group := match r.echo with
      | some e => e.width.toNat * 2 ^ 40 + e.amplitude.toNat * 2 ^ 28 + e.range % 2 ^ 28
      | none => 0
    let colour := match r.colour with
      | some c => [c.rgb.r, c.rgb.g, c.rgb.b] ++ beBytes 2 c.exposure.toNat
      | none => [0, 0, 0, 0, 0]
    r.bytes =
      beBytes 4 r.seq.toNat ++ beBytes 5 r.tFire.toNat ++ beBytes 3 (r.elevation % 2 ^ 24).toNat ++
        beBytes 3 r.azimuth.toNat ++ beBytes 2 r.sweep.toNat ++
        [r.flagsByte, BitVec.ofNat 8 (16 * (r.echoIndex % 16) + r.echoCount % 16), BitVec.ofNat 8 (r.zone % 128)] ++
        beBytes 7 (r.facet % 8 * 2 ^ 53 + group) ++ colour ∧
    ∀ n : Nat, n < 8 →
      r.flagsByte.getLsbD n =
        ([r.echo.isNone, r.trimmed, r.echoOverflow, r.evicted, r.elevHeld, r.azHeld, r.mark, r.colour.isSome].getD n
          false)) ∧
  ((∀ rs : List PointRecord, (Payload.pts rs).bytes = rs.flatMap PointRecord.bytes) ∧
    (∀ (sweep seq : BitVec 32) (facet : Nat),
      (Payload.swp sweep seq facet).bytes = beBytes 4 sweep.toNat ++ beBytes 4 seq.toNat ++ [BitVec.ofNat 8 facet, 0, 0, 0]) ∧
    (∀ (reason : ResyncReason) (removed : Nat) (last : Option (BitVec 32)),
      (Payload.rsy reason removed last).bytes =
        [BitVec.ofNat 8 reason.code, BitVec.ofNat 8 removed, if last.isSome then 1 else 0, 0] ++
          beBytes 4 ((last.map BitVec.toNat).getD 0)) ∧
    (∀ x : Exposure,
      (Payload.exp x).bytes =
        beBytes 2 x.number.toNat ++ [BitVec.ofNat 8 x.planEntry, BitVec.ofNat 8 x.station] ++ beBytes 5 x.tFire.toNat ++
          beBytes 3 x.azimuth.toNat ++ beBytes 3 (x.elevation % 2 ^ 24).toNat ++ beBytes 3 x.azLo.toNat ++
          beBytes 3 x.span ++ beBytes 3 (x.elLo % 2 ^ 24).toNat ++ beBytes 3 (x.elHi % 2 ^ 24).toNat) ∧
    (∀ (number : BitVec 16) (outcome : TileOutcome) (late : Bool) (entry station cols rows : Nat),
      (Payload.tlr number outcome late (some (entry, station)) cols rows).bytes =
        beBytes 2 number.toNat ++
          [BitVec.ofNat 8 outcome.code, if late then 3 else 2, BitVec.ofNat 8 entry, BitVec.ofNat 8 station,
            BitVec.ofNat 8 cols, BitVec.ofNat 8 rows]) ∧
    (∀ (number : BitVec 16) (outcome : TileOutcome) (late : Bool) (cols rows : Nat), ∃ entry station : Byte,
      (Payload.tlr number outcome late none cols rows).bytes =
        beBytes 2 number.toNat ++
          [BitVec.ofNat 8 outcome.code, if late then 1 else 0, entry, station, BitVec.ofNat 8 cols, BitVec.ofNat 8 rows]) ∧
    ∀ a : Answer, (Payload.rsp a).bytes = [a.tag, a.code, BitVec.ofNat 8 a.result.code, 0] ++ a.body) ∧
  ((∀ rs, (Payload.pts rs).kind = 0x81#8) ∧ (∀ sweep seq facet, (Payload.swp sweep seq facet).kind = 0x82#8) ∧
    (∀ reason removed last, (Payload.rsy reason removed last).kind = 0x83#8) ∧ (∀ x, (Payload.exp x).kind = 0x84#8) ∧
    (∀ n o l r c w, (Payload.tlr n o l r c w).kind = 0x85#8) ∧ (∀ a, (Payload.rsp a).kind = 0x86#8) ∧
    ∀ (p : Payload) (summary : Byte) (gap : Bool),
      frameCheck p summary gap =
        crc16 ([p.kind, summary, if gap then 1 else 0, 0] ++ beBytes 2 p.bytes.length ++ p.bytes)) ∧
  (∀ f : OutFrame,
    f.bytes =
      [f.payload.kind, f.summary, if f.gap then 1 else 0, 0] ++ beBytes 2 f.payload.bytes.length ++ f.payload.bytes ++
        beBytes 2 f.check.toNat) ∧
  ∀ (select : List Nat) (flags : EventSet) (n : Nat), n < 8 → select.length = 8 →
    (summaryOf select flags).getLsbD n = flags.getLsbD (select.getD n 31)

/-! ### Table Store -/

/-- R106 to R109: TABLE_WRITE with at least a table and a start byte: the checks in their order, and the entries written. -/
def Obligations.TableWriteIsCheckedInOrder : Prop :=
  ∀ (tag table start : Byte) (bytes : List Byte) (s : State), s.takes → bytes.length ≤ 1022 →
    let u := s.passed
    let answer (result : ResultCode) : State := u.respond tag 0x07#8 result []
    exec (.tableWrite tag (table :: start :: bytes)) s = .next
      (match tableOf table.toNat with
      | none => answer .badArgument
      | some t =>
        let n := bytes.length / t.entryLength
        if s.variant = .p4m ∧ t = .exposurePlan then answer .notSupported
        else if bytes.length % t.entryLength ≠ 0 ∨ n = 0 ∨ 32 < n then answer .malformed
        else if s.tbs.protection.covers t = true then answer .tableProtected
        else if s.tbs.stagedStatus.get t = .pending then answer .busy
        else if t.entries ≤ start.toNat then answer .badArgument
        else
          match readEntries t start.toNat n 0 bytes with
          | none => answer .badArgument
          | some es =>
            State.respond
              { u with
                tbs :=
                  { s.tbs with
                    staged := s.tbs.staged.setTable t (writeEntries (s.tbs.staged.table t) es)
                    stagedStatus := s.tbs.stagedStatus.set t .dirty } }
              tag 0x07#8 .ok [byte (clampCount es)])

/-- R108, R203, section 11.5: an entry as its bytes spell it in the table's layout: numbers unsigned unless marked signed, each
clamped to its range, a RANGE_CONST word by the entry it lands in, and none where an enumerated byte is outside its list. The
carried entries are read in order, each into the entry R107 gives; one whose fields are not clamped reads back as the bytes
carried; the clamp count is the number of carried entries with a clamped field. -/
def Obligations.EntriesAreClampedAsTheyAreRead : Prop :=
  (∀ (i : Nat) (bs : List Byte),
    let field (at_ n : Nat) : Nat := beNat ((bs.drop at_).take n)
    let signed (at_ n : Nat) : Int := signedMod (8 * n) (field at_ n)
    let word := field 0 4
    let kept : BitVec 32 := match i with
      | 0 => BitVec.ofNat 32 (max 1400000 (min 1700000 word))
      | 1 => BitVec.ofInt 32 (max (-32768) (min 32767 (signed 0 4)))
      | 2 => BitVec.ofNat 32 (min (2 ^ 28 - 1) word)
      | 3 => BitVec.ofNat 32 (min (2 ^ 28 - 1) word)
      | _ => BitVec.ofNat 32 (max 1 (min (2 ^ 23) word))
    readEntry .rangeConst i bs = some (kept, decide (kept ≠ BitVec.ofNat 32 word)) ∧
    readEntry .walk i bs = some (signed 0 2, false) ∧
    readEntry .elevCorr i bs = some (signed 0 2, false) ∧
    readEntry .azCorr i bs = some (signed 0 2, false) ∧
    readEntry .zonePlan i bs =
      ([ZonePolicy.nearest, .farthest, .track, .discard][field 9 1]?).map (fun policy =>
        ({ rmin := min (2 ^ 28 - 1) (field 0 4), rmax := min (2 ^ 28 - 1) (field 4 4), maxZone := min 127 (field 8 1)
           policy := policy },
          decide (2 ^ 28 - 1 < field 0 4 ∨ 2 ^ 28 - 1 < field 4 4 ∨ 127 < field 8 1))) ∧
    readEntry .echoPolicy i bs =
      (match [OutputPolicy.all, .first, .last, .strongest, .firstLast][field 0 1]?, [TiePref.near, .far][field 9 1]?,
          [false, true][field 10 1]? with
        | some policy, some tie, some miss =>
          some
            ({ policy := policy, outMax := max 1 (min 8 (field 1 1)), maxEchoes := max 1 (min 8 (field 2 1))
               ampMin := min 4095 (field 3 2), widthMin := min 1023 (field 5 2), widthMax := min 1023 (field 7 2)
               tiePref := tie, missReport := miss },
              decide (field 1 1 < 1 ∨ 8 < field 1 1 ∨ field 2 1 < 1 ∨ 8 < field 2 1 ∨ 4095 < field 3 2 ∨
                1023 < field 5 2 ∨ 1023 < field 7 2))
        | _, _, _ => none) ∧
    readEntry .facet i bs =
      ([false, true][field 2 1]?).map (fun enable => ({ offset := signed 0 2, enable := enable }, false)) ∧
    readEntry .exposurePlan i bs =
      ([false, true][field 13 1]?).map (fun enable =>
        ({ station := min 254 (field 0 1), target := BitVec.ofNat 24 (field 1 3), span := max 1 (min (2 ^ 22) (field 4 3))
           elLo := signed 7 3, elHi := signed 10 3, enable := enable },
          decide (254 < field 0 1 ∨ field 4 3 < 1 ∨ 2 ^ 22 < field 4 3)))) ∧
  (∀ (t : TableId) (i : Nat) (bs : List Byte) (e : EntryOf t), bs.length = t.entryLength →
    readEntry t i bs = some (e, false) → entryBytes t e = bs) ∧
  (∀ (t : TableId) (start n k : Nat) (bs : List Byte) (es : List (Nat × ReadEntry t)),
    readEntries t start n k bs = some es ↔
      es.length = n ∧ ∀ j : Nat, j < n → ∃ e : ReadEntry t,
        readEntry t (segmentIndex t start (k + j)) ((bs.drop (j * t.entryLength)).take t.entryLength) = some e ∧
          es[j]? = some (segmentIndex t start (k + j), e)) ∧
  ∀ (t : TableId) (es : List (Nat × ReadEntry t)), clampCount es = es.countP fun x => x.2.2

/-- R107: a write from any start stays in the segment of its start entry, goes on at its first entry past its last, and the
last value carried for an entry stands. -/
def Obligations.WritesWrapInTheirSegment : Prop :=
  (∀ (t : TableId) (start k : Nat), start < t.entries →
    segmentIndex t start 0 = start ∧
    segmentIndex t start k < t.entries ∧
    segmentIndex t start k / 32 = start / 32 ∧
    segmentIndex t start (k + 1) =
      if (segmentIndex t start k + 1) % 32 = 0 ∨ segmentIndex t start k + 1 = t.entries then start / 32 * 32
      else segmentIndex t start k + 1) ∧
  ∀ (t : TableId) (content : List (EntryOf t)) (es : List (Nat × ReadEntry t)) (i : Nat),
    (writeEntries content es).length = content.length ∧
    (i < content.length →
      (writeEntries content es)[i]? =
        match (es.filter fun x => decide (x.1 = i)).getLast? with
        | some x => some x.2.1
        | none => content[i]?)

/-- R110, R111: the commit checks, each with the entry index of the first failure; TABLE_COMMIT: the checks in their order,
PENDING in RUNNING and DRAINING, a switch at once in STOPPED and WAITING. R116: TABLE_CANCEL turns a PENDING table DIRTY and
leaves a CLEAN or DIRTY one as it is, after the first three checks of R110. -/
def Obligations.CommitsAndCancelsOfTables : Prop :=
  (∀ (b : Bank) (i : Nat),
    let zoneFails (j : Nat) : Prop := ∃ z, b.zonePlan[j]? = some z ∧ z.rmax < z.rmin
    let planFails (j : Nat) : Prop :=
      ∃ e, b.exposurePlan[j]? = some e ∧ e.enable = true ∧
        (e.elHi ≤ e.elLo ∨
          ∃ (k : Nat) (f : PlanEntry), k < j ∧ b.exposurePlan[k]? = some f ∧ f.enable = true ∧
            e.target.toNat ≤ f.target.toNat)
    (commitFailure b .rangeConst = some i ↔
      i = 2 ∧ (b.rangeConst.getD 3 0).toNat < (b.rangeConst.getD 2 0).toNat) ∧
    (commitFailure b .zonePlan = some i ↔ zoneFails i ∧ ∀ j, j < i → ¬zoneFails j) ∧
    (commitFailure b .echoPolicy = some i ↔ i = 0 ∧ b.policy.widthMax < b.policy.widthMin) ∧
    (commitFailure b .exposurePlan = some i ↔ planFails i ∧ ∀ j, j < i → ¬planFails j) ∧
    commitFailure b .walk = none ∧ commitFailure b .elevCorr = none ∧ commitFailure b .azCorr = none ∧
    commitFailure b .facet = none) ∧
  (∀ (tag table : Byte) (s : State), s.takes →
    let u := s.passed
    let answer (result : ResultCode) (body : List Byte) : State := u.respond tag 0x09#8 result body
    exec (.tableCommit tag [table]) s = .next
      (match tableOf table.toNat with
      | none => answer .badArgument []
      | some t =>
        let marked : State := { u with tbs := { s.tbs with stagedStatus := s.tbs.stagedStatus.set t .pending } }
        if s.variant = .p4m ∧ t = .exposurePlan then answer .notSupported []
        else if s.tbs.protection.covers t = true then answer .tableProtected []
        else if s.tbs.stagedStatus.get t = .pending then answer .busy []
        else
          match commitFailure s.tbs.staged t with
          | some i => answer .badArgument [byte i]
          | none =>
            if s.emq.run = .stopped ∨ s.emq.run = .waiting then
              marked.generationSwitch.respond tag 0x09#8 .ok [s.tbs.generation + 1, 0]
            else marked.respond tag 0x09#8 .ok [s.tbs.generation, 1])) ∧
  (∀ (tag table : Byte) (s : State), s.takes →
    let u := s.passed
    let answer (result : ResultCode) : State := u.respond tag 0x0A#8 result []
    exec (.tableCancel tag [table]) s = .next
      (match tableOf table.toNat with
      | none => answer .badArgument
      | some t =>
        if s.variant = .p4m ∧ t = .exposurePlan then answer .notSupported
        else if s.tbs.protection.covers t = true then answer .tableProtected
        else if s.tbs.stagedStatus.get t = .pending then
          State.respond { u with tbs := { s.tbs with stagedStatus := s.tbs.stagedStatus.set t .dirty } } tag 0x0A#8 .ok []
        else answer .ok))

/-- R114: what a generation switch does to every table, to a read of the ACTIVE bank in progress, to the event flags and to the
Exposure Unit; R112: a boundary notice switches when a table is PENDING and every open pulse carries the current generation, and
otherwise leaves the state alone; the row is such a notice (log entry 24). -/
def Obligations.GenerationSwitchTakesThePendingTables : Prop :=
  ∀ s : State,
    ((∃ t : TableId, s.tbs.stagedStatus.get t = .pending) → (∀ p ∈ s.emq.queue, p.gen = s.tbs.generation) →
      s.boundaryNotice = s.generationSwitch ∧ exec .generationSwitch s = .next s.generationSwitch.settleRead) ∧
    (¬((∃ t : TableId, s.tbs.stagedStatus.get t = .pending) ∧ ∀ p ∈ s.emq.queue, p.gen = s.tbs.generation) →
      s.boundaryNotice = s ∧ exec .generationSwitch s = .next s.settleRead) ∧
    (∀ t : TableId,
      let pending := s.tbs.stagedStatus.get t = .pending
      let b := s.generationSwitch.tbs
      b.bankActive.table t = (if pending then s.tbs.staged.table t else s.tbs.bankActive.table t) ∧
      b.activeStatus.get t = (if pending then .valid else s.tbs.activeStatus.get t) ∧
      b.stagedStatus.get t = (if pending then .clean else s.tbs.stagedStatus.get t)) ∧
    s.generationSwitch.tbs.retiring = s.tbs.bankActive ∧
    s.generationSwitch.tbs.staged = s.tbs.staged ∧
    s.generationSwitch =
      { s with
        tbs :=
          { s.generationSwitch.tbs with
            generation := s.tbs.generation + 1, protection := s.tbs.protection, grants := s.tbs.grants }
        cmi :=
          { s.cmi with
            reading :=
              s.cmi.reading.map fun r =>
                { r with split := r.split || decide (r.bank = .active ∧ 0 < r.done ∧ r.done < r.count) } }
        flags := s.flags ||| Event.commitDone.bit
        exu := if s.variant = .p4c then { s.exu with seek := true } else s.exu }

/-- R123: the protected set is the run of the word, or its complement. R117: TABLE_STATE reports the generation, both statuses
of each table, the protection and CAL_EN, and changes no state but the lines it samples (log entry 2); the set it reports has
bit n for table n, on a P4M too (log entry 18). R124: SET_PROTECT is taken in mode OPEN, in mode LINE while CAL_EN is high, and
never in mode FROZEN. R194, R186: taken from the queue, both commands act in every state the same, with CAL_EN as held when they
are taken (log entry 2). -/
def Obligations.TableStateAndProtection : Prop :=
  (∀ (p : Protection) (t : TableId),
    let inRun := p.firstTable ≤ t.number ∧ t.number + 1 ≤ p.firstTable + p.count
    (p.covers t = true ↔ (p.complement = false ∧ inRun) ∨ (p.complement = true ∧ ¬inRun)) ∧
    p.setByte.getLsbD t.number = p.covers t) ∧
  (∀ (s : State) (l : Lines),
    s.withLines l =
      { s with
        pins := { s.pins with calEn := l.calEn, recReady := l.recReady }
        rlf :=
          { s.rlf with
            departing := s.rlf.departing || (l.recReady && !s.pins.recReady && !s.rlf.buffer.isEmpty) } }) ∧
  (∀ tag : Byte,
    let status (u : State) (t : TableId) : List Byte :=
      if u.variant = .p4m ∧ t = .exposurePlan then [0, 0]
      else [byte (u.tbs.activeStatus.get t).code, byte (u.tbs.stagedStatus.get t).code]
    let reported (u : State) (calEn : Bool) : State :=
      u.respond tag 0x0B#8 .ok
        ([u.tbs.generation] ++ status u .rangeConst ++ status u .walk ++ status u .zonePlan ++ status u .echoPolicy ++
          status u .elevCorr ++ status u .azCorr ++ status u .facet ++ status u .exposurePlan ++
          [byte u.tbs.protection.firstTable, byte u.tbs.protection.count, boolByte u.tbs.protection.complement,
            byte u.tbs.protection.mode.code, u.tbs.protection.setByte, boolByte calEn])
    (∀ s : State, State.takeCommand s { tag := tag, code := 0x0B#8, args := [] } = reported s s.pins.calEn) ∧
    ∀ (l : Lines) (s : State), s.takes →
      exec (.tableState tag [] l) s = .next (reported (s.withLines l).passed l.calEn)) ∧
  ∀ tag first count complement mode : Byte,
    let judged (u : State) (calEn : Bool) : State :=
      let answer (result : ResultCode) : State := u.respond tag 0x0C#8 result []
      if u.tbs.protection.mode = .frozen ∨ u.tbs.protection.mode = .line ∧ calEn = false then answer .locked
      else
        match flagOf complement.toNat, protectModeOf mode.toNat with
        | some c, some m =>
          if first.toNat ≤ 7 ∧ count.toNat ≤ 8 then
            State.respond
              { u with
                tbs :=
                  { u.tbs with
                    protection := { firstTable := first.toNat, count := count.toNat, complement := c, mode := m } } }
              tag 0x0C#8 .ok []
          else answer .badArgument
        | _, _ => answer .badArgument
    (∀ s : State,
      State.takeCommand s { tag := tag, code := 0x0C#8, args := [first, count, complement, mode] } =
        judged s s.pins.calEn) ∧
    ∀ (l : Lines) (s : State), s.takes →
      exec (.setProtect tag [first, count, complement, mode] l) s = .next (judged (s.withLines l).passed l.calEn)

/-- R118, R119: at the read port, nothing happens to a pipeline request while no fetch waits. Behind a gap that grants a free
number of fetches (log entry 13), a waiting fetch goes first once 64 pipeline grants have passed it, and the pipeline grant
counts while a fetch still waits. R120, R121: a TABLE_READ that passes its checks goes into execution without an answer; the
others are answered at once. R118, R119, R121, R186: a grant to the read fetches one entry of the bank as it stands and returns
the port's count to 0; the last fetch offers the answer, and the interpreter goes on with its queue (settleRead, log entry 26).
With no read in execution the row grants nothing and only samples its lines (log entries 2 and 10). -/
def Obligations.TableReadFetchesAndAnswers : Prop :=
  (∀ s : State,
    (¬(∃ r : Reading, s.cmi.reading = some r ∧ r.done < r.count) → s.pipelineRequest = s ∧ s.portGap = s) ∧
    State.pipelineRequests 0 s = s ∧
    (∀ n : Nat, State.pipelineRequests (n + 1) s = State.pipelineRequests n s.pipelineRequest) ∧
    ∀ r : Reading, s.cmi.reading = some r → r.done < r.count →
      let fetches (n : Nat) : Reading := (List.range n).foldl (fun x _ => x.fetch s.tbs) r
      let granted (n grants : Nat) : State :=
        { s with
          cmi := { s.cmi with reading := some (fetches n) }, tbs := { s.tbs with grants := grants }
          freeCount := s.freeCount + 1 }
      (∃ n : Nat, r.done + n ≤ r.count ∧ s.portGap = granted n (if n = 0 then s.tbs.grants else 0)) ∧
      ∃ n : Nat, r.done + n ≤ r.count ∧
        (r.done + n = r.count → s.pipelineRequest = granted n 0) ∧
        (r.done + n < r.count → n = 0 → s.tbs.grants < 64 ∧ s.pipelineRequest = granted 0 (s.tbs.grants + 1)) ∧
        (r.done + n < r.count → 0 < n → s.pipelineRequest = granted n 1)) ∧
  (∀ (tag table bank start count : Byte) (s : State), s.takes →
    let u := s.passed
    let answer (result : ResultCode) : State := u.respond tag 0x08#8 result []
    exec (.tableRead tag [table, bank, start, count]) s = .next
      (match tableOf table.toNat with
      | none => answer .badArgument
      | some t =>
        if s.variant = .p4m ∧ t = .exposurePlan then answer .notSupported
        else
          match readBankOf bank.toNat with
          | none => answer .badArgument
          | some b =>
            if count.toNat = 0 ∨ 32 < count.toNat ∨ t.entries ≤ start.toNat then answer .badArgument
            else
              { u with
                cmi :=
                  { s.cmi with
                    reading :=
                      some
                        { tag := tag, table := t, bank := b, start := start.toNat, count := count.toNat, done := 0
                          firstGen := s.tbs.generation, lastGen := s.tbs.generation, split := false, entries := [] } } })) ∧
  (∀ (l : Lines) (s : State),
    let u := s.withLines l
    (s.cmi.reading = none → exec (.tableReadFetch l) s = .next u.settleRead) ∧
    ∀ r : Reading, s.cmi.reading = some r → r.done < r.count →
      let fetched : Reading :=
        { r with
          done := r.done + 1
          firstGen := if r.done = 0 then s.tbs.generation else r.firstGen
          lastGen := s.tbs.generation
          entries :=
            r.entries ++
              entryBytes r.table ((s.tbs.readBank r.bank).entry r.table (segmentIndex r.table r.start r.done)) }
      let granted (reading : Option Reading) : State :=
        { u with cmi := { s.cmi with reading := reading }, tbs := { s.tbs with grants := 0 } }
      (r.done + 1 < r.count → exec (.tableReadFetch l) s = .next (granted (some fetched))) ∧
      (r.done + 1 = r.count →
        exec (.tableReadFetch l) s = .next
          ((granted none).respond r.tag 0x08#8 .ok
            ([BitVec.ofNat 8 r.table.number, if r.bank = .active then 1 else 0, BitVec.ofNat 8 r.start, BitVec.ofNat 8 r.count,
                fetched.firstGen, fetched.lastGen, if r.split then 1 else 0, 0] ++ fetched.entries)).takeQueued))

/-- R124: "Protection mode FROZEN is left only by a power-on reset": no other command changes a FROZEN protection,
and neither does a step with no command waiting, in which the interpreter may take a queued SET_PROTECT (R186, log entry 6). -/
def Obligations.FrozenProtectionStays : Prop :=
  ∀ s t : State, (∀ (l : Lines) (rest : List Instr), s.pending ≠ .powerOnReset l :: rest) →
    s.tbs.protection.mode = .frozen → step s = .next t → t.tbs.protection = s.tbs.protection

/-! ### Exposure Unit -/

/-- R137 to R140, R6, R15: a TILE at a P4C: unmatched, failed, stored or dropped, each with its TLR; a TILE that fails the tile
tests, and every TILE at a P4M, is refused with FRAME_REJECT. -/
def Obligations.TileIsMatchedToItsExposure : Prop :=
  ∀ (n : BitVec 16) (status : TileStatus) (cols rows : Byte) (cells : List Rgb) (s : State), s.listens →
    let u := s.passed
    let dimensions := 1 ≤ cols.toNat ∧ cols.toNat ≤ 32 ∧ 1 ≤ rows.toNat ∧ rows.toNat ≤ 64
    let fits := s.variant = .p4c ∧ dimensions ∧ cells.length = if status = .ok then cols.toNat * rows.toNat else 0
    let found := s.exu.queue.find? fun r => decide (r.number = n)
    let others := s.exu.queue.eraseP fun r => decide (r.number = n)
    (¬fits → exec (.tile n status cols rows cells) s = .next u.rejectFrame.settleRead) ∧
    (fits → found = none →
      exec (.tile n status cols rows cells) s = .next
        (State.offer { u with flags := s.flags ||| Event.tileDropped.bit } (.tlr n .unmatched false none 0 0)).settleRead) ∧
    ∀ r : Exposure, fits → found = some r →
      let report (outcome : TileOutcome) : Payload := .tlr n outcome false (some (r.planEntry, r.station)) 0 0
      let late := match s.exu.prevLaser with
        | some a => decide ((a - r.azLo).toNat < 2 ^ 23)
        | none => false
      let stored : Tile :=
        { number := n, azLo := r.azLo, span := r.span, elLo := r.elLo, elHi := r.elHi, cols := cols.toNat
          rows := rows.toNat, cells := cells }
      (status = .failed →
        exec (.tile n status cols rows cells) s = .next
          (State.offer
            { u with exu := { s.exu with queue := others }, flags := s.flags ||| Event.tileFailed.bit }
            (report .failed)).settleRead) ∧
      (status = .busy →
        exec (.tile n status cols rows cells) s = .next
          (State.offer
            { u with exu := { s.exu with queue := others }, flags := s.flags ||| Event.tileFailed.bit }
            (report .busy)).settleRead) ∧
      (status = .ok → s.exu.tiles.length < 4 →
        exec (.tile n status cols rows cells) s = .next
          (State.offer { u with exu := { s.exu with queue := others, tiles := s.exu.tiles ++ [stored] } }
            (.tlr n .stored late (some (r.planEntry, r.station)) cols.toNat rows.toNat)).settleRead) ∧
      (status = .ok → 4 ≤ s.exu.tiles.length →
        exec (.tile n status cols rows cells) s = .next
          (State.offer
            { u with exu := { s.exu with queue := others }, flags := s.flags ||| Event.tileDropped.bit }
            (report .dropped)).settleRead)

/-- R133, R142, R143: the timeout and retirement steps at a pulse that the unit handles, and the end of the CAM_TRIG pulse. A
span end is crossed when the laser azimuth has reached it and the previous one had not (00_scope, Angles); with no previous
azimuth none is. Where the unit handles no pulse the first two rows leave the state alone (log entry 11). -/
def Obligations.SpanEndsReleaseRecordsAndTiles : Prop :=
  ∀ (laser : Azimuth) (s : State),
    let acts := s.variant = .p4c ∧ s.params.camEnable = true ∧ s.emq.run = .running
    let ended (azLo : Azimuth) (span : Nat) : Bool :=
      match s.exu.prevLaser with
      | none => false
      | some prev =>
        let last := azLo + BitVec.ofNat 24 span
        decide ((laser - last).toNat < 2 ^ 23 ∧ 2 ^ 23 ≤ (prev - last).toNat)
    (acts →
      exec (.tileTimeout laser) s = .next
        (State.settleRead
          ((s.exu.queue.filter fun r => ended r.azLo r.span).foldl
            (fun t r =>
              State.offer { t with flags := t.flags ||| Event.tileTimeout.bit }
                (.tlr r.number .timeout false (some (r.planEntry, r.station)) 0 0))
            { s with exu := { s.exu with queue := s.exu.queue.filter fun r => !ended r.azLo r.span } }))) ∧
    (acts →
      exec (.tileRetire laser) s = .next
        (State.settleRead
          { s with exu := { s.exu with tiles := s.exu.tiles.filter fun t => !ended t.azLo t.span } })) ∧
    (¬acts → exec (.tileTimeout laser) s = .next s.settleRead ∧ exec (.tileRetire laser) s = .next s.settleRead) ∧
    exec .camTrigPulseEnd s = .next (State.settleRead { s with pins := { s.pins with camTrig := false } })

/-- R128, R129, R147: the unit's work on an accepted pulse: seek, compare, timeout, retirement, colour lookup and the previous
azimuths, in this order; none while CamEnable is 0 or on a P4M. R131: a pending seek points to the enabled entry whose target is
nearest strictly ahead of the lead azimuth, a target at it counting as a whole lap, sets the previous lead azimuth and ends.
R132, R134: the compare tests targets from the pointer on, each enabled entry at most once; a crossed one makes an exposure when
it is the first and the queue has room, and is missed with EXPOSURE_MISSED otherwise, and the pointer goes on to the next
enabled entry, wrapping; it ends at the first target not crossed. A seek makes 64 port requests and a compare one for each
target it tests (log entry 12), which change nothing where no TABLE_READ is in execution (TableReadFetchesAndAnswers). -/
def Obligations.ExposureWorkFollowsThePlan : Prop :=
  (∀ (s : State) (v : PulseView),
    let lead := v.azimuth + BitVec.ofNat 24 s.params.camLead
    let worked := (((s.seekPlan lead).comparePlan lead v).timeoutStep v.azimuth).retireStep v.azimuth
    (s.variant = .p4c → s.params.camEnable = true →
      s.exposureWork v =
        ({ worked with exu := { worked.exu with prevLead := some lead, prevLaser := some v.azimuth } },
          worked.lookupColour v)) ∧
    (s.variant = .p4m ∨ s.params.camEnable = false → s.exposureWork v = (s, none))) ∧
  (∀ (s : State) (laser : Azimuth), s.variant = .p4c → s.params.camEnable = true → s.emq.run = .running →
    exec (.tileTimeout laser) s = .next (s.timeoutStep laser).settleRead ∧
      exec (.tileRetire laser) s = .next (s.retireStep laser).settleRead) ∧
  (∀ (s : State) (lead : Azimuth),
    (s.exu.seek = false → s.seekPlan lead = s) ∧
    (s.exu.seek = true →
      s.seekPlan lead =
        { State.pipelineRequests 64 s with
          exu :=
            { s.exu with
              pointer := seekEntry s.tbs.bankActive.exposurePlan lead, prevLead := some lead, seek := false } })) ∧
  (∀ (plan : List PlanEntry) (lead : Azimuth),
    let distance (e : PlanEntry) : Nat := if e.target = lead then 2 ^ 24 else (e.target - lead).toNat
    (seekEntry plan lead = none ↔ ∀ e ∈ plan, e.enable = false) ∧
    ∀ i : Nat, seekEntry plan lead = some i →
      ∃ e, plan[i]? = some e ∧ e.enable = true ∧ ∀ f ∈ plan, f.enable = true → distance e ≤ distance f) ∧
  (∀ (plan : List PlanEntry) (i : Nat), i < 64 → plan.length = 64 →
    let enabled (j : Nat) : Prop := ∃ e, plan[j]? = some e ∧ e.enable = true
    (nextEnabled plan i = none ↔ ∀ j, ¬enabled j) ∧
    ∀ j : Nat, nextEnabled plan i = some j →
      enabled j ∧ ∃ k : Nat, k < 64 ∧ j = (i + 1 + k) % 64 ∧ ∀ m : Nat, m < k → ¬enabled ((i + 1 + m) % 64)) ∧
  ∀ (s : State) (lead prev : Azimuth) (v : PulseView),
    let plan := s.tbs.bankActive.exposurePlan
    let target (i : Nat) : Azimuth := (s.tbs.bankActive.entry .exposurePlan i : PlanEntry).target
    let crosses (i : Nat) : Prop := (lead - target i).toNat < 2 ^ 23 ∧ 2 ^ 23 ≤ (prev - target i).toNat
    (s.exu.prevLead = none → s.comparePlan lead v = s) ∧
    (s.exu.prevLead = some prev →
      s.comparePlan lead v = compareTargets prev lead v (plan.countP fun e => e.enable) true s) ∧
    (∀ first : Bool, compareTargets prev lead v 0 first s = s) ∧
    ∀ (n : Nat) (first : Bool),
      (s.exu.pointer = none → compareTargets prev lead v (n + 1) first s = s) ∧
      ∀ i : Nat, s.exu.pointer = some i →
        let u := s.pipelineRequest
        (¬crosses i → compareTargets prev lead v (n + 1) first s = u) ∧
        (crosses i →
          let tried : State :=
            if first = true ∧ s.exu.queue.length < 8 then u.makeExposure i v
            else { u with flags := s.flags ||| Event.exposureMissed.bit }
          compareTargets prev lead v (n + 1) first s =
            compareTargets prev lead v n false { tried with exu := { tried.exu with pointer := nextEnabled plan i } })

/-- R133, R135: an exposure takes the next number that no record and no tile holds, every number before it being held; it drives
CAM_TRIG, appends its record with the plan entry as the ACTIVE bank holds it, and offers its EXP frame, behind one port request
for that entry (log entry 12). -/
def Obligations.ExposureTakesAFreshNumber : Prop :=
  (∀ x : Exu, x.queue.length ≤ 8 → x.tiles.length ≤ 4 →
    (∀ r ∈ x.queue, r.number ≠ x.nextNumber) ∧ (∀ t ∈ x.tiles, t.number ≠ x.nextNumber) ∧
      1 ≤ (x.nextNumber - x.counter).toNat ∧ (x.nextNumber - x.counter).toNat ≤ 13 ∧
      ∀ n : BitVec 16, 1 ≤ (n - x.counter).toNat → (n - x.counter).toNat < (x.nextNumber - x.counter).toNat →
        (∃ r ∈ x.queue, r.number = n) ∨ ∃ t ∈ x.tiles, t.number = n) ∧
  ∀ (s : State) (i : Nat) (v : PulseView),
    let u := s.pipelineRequest
    let e := s.tbs.bankActive.exposurePlan.getD i (zeroEntry .exposurePlan)
    let r : Exposure :=
      { number := s.exu.nextNumber, planEntry := i, station := e.station, tFire := v.tFire, azimuth := v.azimuth
        elevation := v.elevation, azLo := e.target - BitVec.ofNat 24 (e.span / 2), span := e.span, elLo := e.elLo
        elHi := e.elHi }
    s.makeExposure i v =
      State.offer
        { u with
          exu := { s.exu with counter := s.exu.nextNumber, queue := s.exu.queue ++ [r] }
          pins := { s.pins with camTrig := true } }
        (.exp r)

/-- R144, R145, R146: a tile covers a direction within its span and its elevations. The cell of a covered direction stands in the
column (azimuth − az_lo) × cols div span and the row (elevation − el_lo) × rows div (el_hi − el_lo + 1), both inside the tile.
A colour is given when and only when a stored tile covers the direction: that tile's cell and number, the tile being the covering
one whose number is newer than every other's, or the one of the largest number where none is. -/
def Obligations.CoveredDirectionsHaveACell : Prop :=
  (∀ (t : Tile) (azimuth : Azimuth) (elevation : Int),
    (t.covers azimuth elevation = true ↔
      (azimuth - t.azLo).toNat < t.span ∧ t.elLo ≤ elevation ∧ elevation ≤ t.elHi) ∧
    (t.covers azimuth elevation = true → t.cells.length = t.cols * t.rows → 1 ≤ t.cols → 1 ≤ t.rows →
      let column := (azimuth - t.azLo).toNat * t.cols / t.span
      let row := ((elevation - t.elLo) * (t.rows : Int) / (t.elHi - t.elLo + 1)).toNat
      0 ≤ (elevation - t.elLo) * (t.rows : Int) / (t.elHi - t.elLo + 1) ∧ row < t.rows ∧ column < t.cols ∧
        t.cells[row * t.cols + column]? = some (t.cellAt azimuth elevation))) ∧
  ∀ (s : State) (v : PulseView),
    let covering (t : Tile) : Prop := t ∈ s.exu.tiles ∧ t.covers v.azimuth v.elevation = true
    let newest (t : Tile) : Prop := covering t ∧ ∀ u : Tile, covering u → (t.number - u.number).toNat < 2 ^ 15
    ((s.lookupColour v).isSome = true ↔ ∃ t : Tile, covering t) ∧
    ∀ c : Colour, s.lookupColour v = some c →
      ∃ t : Tile, covering t ∧ c.exposure = t.number ∧ c.rgb = t.cellAt v.azimuth v.elevation ∧
        ((∃ u : Tile, newest u) → newest t) ∧
        ((¬∃ u : Tile, newest u) → ∀ u : Tile, covering u → u.number.toNat ≤ t.number.toNat)

/-! ### Trigger Unit -/

/-- R152, R155, R203, section 11.4: TRIGGER_SET reads a whole configuration from its 32 bytes, clamping each numeric field to its
range. It is taken when its mode and Repeat bytes are codes of their lists, both echo indices are at most 8 and neither clamped
range is reversed: the configuration is replaced and the unit goes to OFF with its capture kept. Otherwise it is refused and
changes nothing. TRIGGER_ARM moves OFF to WAIT_L1 and is refused elsewhere. -/
def Obligations.TriggerIsSetAndArmed : Prop :=
  ∀ (tag : Byte) (args : List Byte) (s : State), s.takes →
    let field (at_ n : Nat) : Nat := beNat ((args.drop at_).take n)
    let condition (at_ : Nat) : Condition :=
      { rangeLo := min (2 ^ 28 - 1) (field at_ 4)
        rangeHi := min (2 ^ 28 - 1) (field (at_ + 4) 4)
        amplitudeMin := min 4095 (field (at_ + 8) 2)
        flagMask := BitVec.ofNat 8 (field (at_ + 10) 1)
        flagValue := BitVec.ofNat 8 (field (at_ + 11) 1)
        echoIndex := field (at_ + 12) 1 }
    let condA := condition 6
    let condB := condition 19
    let sound (c : Condition) : Prop := c.echoIndex ≤ 8 ∧ c.rangeLo ≤ c.rangeHi
    let taken := field 0 1 ≤ 1 ∧ field 3 1 ≤ 1 ∧ sound condA ∧ sound condB
    (args.length = 32 → taken →
      exec (.triggerSet tag args) s = .next
        (State.respond
          { s.passed with
            tru :=
              { config :=
                  { mode := if field 0 1 = 0 then .one else .two
                    condA := condA
                    condB := condB
                    l2Window := max 1 (min 65535 (field 4 2))
                    respMark := (field 1 1).testBit 0
                    respCapture := (field 1 1).testBit 1
                    respAlert := (field 1 1).testBit 2
                    markCount := min 255 (field 2 1)
                    rearm := decide (field 3 1 = 1) }
                state := .off, window := 0, hits := 0, marks := 0, alertUnread := false, history := []
                capState := s.tru.capState, capture := s.tru.capture, toGo := s.tru.toGo, hitPos := s.tru.hitPos
                skipped := false } }
          tag 0x10#8 .ok [])) ∧
    (args.length = 32 → ¬taken →
      exec (.triggerSet tag args) s = .next (s.passed.respond tag 0x10#8 .badArgument [])) ∧
    (s.tru.state = .off →
      exec (.triggerArm tag []) s = .next
        (State.respond { s.passed with tru := { s.tru with state := .waitL1, window := 0 } } tag 0x11#8 .ok [])) ∧
    (s.tru.state ≠ .off → exec (.triggerArm tag []) s = .next (s.passed.respond tag 0x11#8 .wrongState []))

/-- R165: TRIGGER_READ reports the unit as it stands (bits 7 to 2 of its indications are zero: log entry 32), returns a terminal
state to OFF with an empty history, and clears the two indications. R166: CAPTURE_READ empties a FULL buffer into its answer, is
answered BUSY while FILLING, and reports 0 records when EMPTY. -/
def Obligations.TriggerAndCaptureAreRead : Prop :=
  (∀ (tag : Byte) (s : State), s.takes →
    let terminal := s.tru.state = .l1Hit ∨ s.tru.state = .l2Hit
    let report : List Byte :=
      [byte s.tru.state.code, byte s.tru.capState.code, byte s.tru.capture.length,
        byte (s.tru.alertUnread.toNat + 2 * s.tru.skipped.toNat)] ++ beBytes 4 s.tru.hits ++ beBytes 4 s.tru.window
    (terminal →
      exec (.triggerRead tag []) s = .next
        (State.respond
          { s.passed with
            tru := { s.tru with state := .off, window := 0, history := [], alertUnread := false, skipped := false } }
          tag 0x12#8 .ok report)) ∧
    (¬terminal →
      exec (.triggerRead tag []) s = .next
        (State.respond { s.passed with tru := { s.tru with alertUnread := false, skipped := false } }
          tag 0x12#8 .ok report))) ∧
  (∀ (tag : Byte) (s : State), s.takes →
    (s.tru.capState = .full →
      exec (.captureRead tag []) s = .next
        (State.respond { s.passed with tru := { s.tru with capState := .empty, capture := [], toGo := 0, hitPos := 0 } }
          tag 0x13#8 .ok
          ([byte s.tru.capture.length, byte s.tru.hitPos, 0, 0] ++ s.tru.capture.flatMap PointRecord.bytes))) ∧
    (s.tru.capState = .filling → exec (.captureRead tag []) s = .next (s.passed.respond tag 0x13#8 .busy [])) ∧
    (s.tru.capState = .empty → exec (.captureRead tag []) s = .next (s.passed.respond tag 0x13#8 .ok [0, 0, 0, 0])))

/-- R153: the five tests of a condition: the range and the amplitude of a record with an echo, and open range and amplitude
tests for a MISS record; each flag that the mask names, with MARK tested as clear; and the echo index. R156 to R158: the test of
a record in each trigger state. R157, R163: the two rows that end a window and a capture leave the state alone where their
condition does not hold (log entry 10). -/
def Obligations.TriggerTestsARecord : Prop :=
  (∀ (c : Condition) (r : PointRecord),
    let measured := match r.echo with
      | some e => c.rangeLo ≤ e.range ∧ e.range ≤ c.rangeHi ∧ c.amplitudeMin ≤ e.amplitude.toNat
      | none => c.rangeLo = 0 ∧ c.rangeHi = 2 ^ 28 - 1 ∧ c.amplitudeMin = 0
    let flag (n : Nat) : Bool :=
      [r.echo.isNone, r.trimmed, r.echoOverflow, r.evicted, r.elevHeld, r.azHeld, false, r.colour.isSome].getD n false
    c.meets r = true ↔
      measured ∧ (∀ n : Nat, n < 8 → c.flagMask.getLsbD n = true → flag n = c.flagValue.getLsbD n) ∧
        (c.echoIndex = 0 ∨ c.echoIndex = r.echoIndex)) ∧
  (∀ (t : Tru) (r : PointRecord),
    (t.state = .waitL1 → t.config.condA.meets r = false → t.test r = (t, false)) ∧
    (t.state = .waitL1 → t.config.condA.meets r = true → t.config.mode = .one →
      t.test r = ({ t with state := .l1Hit }, true)) ∧
    (t.state = .waitL1 → t.config.condA.meets r = true → t.config.mode = .two →
      t.test r = ({ t with state := .waitL2, window := t.config.l2Window }, false)) ∧
    (t.state = .waitL2 → t.config.condB.meets r = true → t.test r = ({ t with state := .l2Hit, window := 0 }, true)) ∧
    (t.state = .waitL2 → t.config.condB.meets r = false → 2 ≤ t.window →
      t.test r = ({ t with window := t.window - 1 }, false)) ∧
    (t.state = .waitL2 → t.config.condB.meets r = false → t.window = 1 →
      t.test r = ({ t with state := .waitL1, window := 0 }, false)) ∧
    (t.state = .off ∨ t.state = .l1Hit ∨ t.state = .l2Hit → t.test r = (t, false))) ∧
  ∀ s : State,
    (s.tru.state = .waitL2 → s.tru.window = 0 →
      exec .l2WindowEnd s = .next (State.settleRead { s with tru := { s.tru with state := .waitL1 } })) ∧
    (¬(s.tru.state = .waitL2 ∧ s.tru.window = 0) → exec .l2WindowEnd s = .next s.settleRead) ∧
    (s.tru.capState = .filling → s.tru.toGo = 0 →
      exec .captureFull s = .next
        (State.settleRead
          { s with tru := { s.tru with capState := .full }, flags := s.flags ||| Event.captureFull.bit })) ∧
    (¬(s.tru.capState = .filling ∧ s.tru.toGo = 0) → exec .captureFull s = .next s.settleRead)

/-- R154, R160 to R164: the passage of a record, whole. The test (TriggerTestsARecord) may open a window, with TRIG_L1, or make
a hit, with TRIG_HIT, the saturating count and ALERT. MARK stands on a hit record with the MARK response, whose MarkCount then
remains, and on every other record while marks remain. A hit with the CAPTURE response begins a capture from the history where
the capture state is EMPTY and sets capture skipped elsewhere; a record that begins none joins a FILLING capture, and its last
place fills it, with CAPTURE_FULL. Where the unit is not in OFF after the test, the record joins the history, which keeps the
last 16. The rest of the part stays as it was. -/
def Obligations.RecordsPassTheTriggerUnit : Prop :=
  ∀ (s : State) (r : PointRecord),
    let before := s.tru
    let config := before.config
    let tested := (before.test r).1
    let hit : Bool := (before.test r).2
    let opens : Bool := decide (before.state = .waitL1 ∧ tested.state = .waitL2)
    let left : PointRecord :=
      { r with mark := r.mark || (if hit = true then config.respMark else decide (0 < before.marks)) }
    let captures : Bool := hit && config.respCapture
    let begins : Bool := captures && decide (before.capState = .empty)
    let joins : Bool := decide (before.capState = .filling)
    let fills : Bool := joins && decide (before.toGo ≤ 1)
    let told : EventSet := if opens = true then s.flags ||| Event.trigL1.bit else s.flags
    let struck : EventSet := if hit = true then told ||| Event.trigHit.bit else told
    s.triggerPass r =
      ({ s with
          tru :=
            { config := config
              state := tested.state
              window := tested.window
              hits := if hit = true ∧ before.hits < 65535 then before.hits + 1 else before.hits
              marks :=
                if hit = true then (if config.respMark = true then config.markCount else before.marks)
                else before.marks - 1
              alertUnread := before.alertUnread || hit && config.respAlert
              history :=
                if tested.state = .off then before.history
                else (before.history ++ [left]).drop (before.history.length + 1 - 16)
              capState := if begins = true then .filling else if fills = true then .full else before.capState
              capture :=
                if begins = true then before.history ++ [left]
                else if joins = true then before.capture ++ [left] else before.capture
              toGo := if begins = true then 15 else if joins = true then before.toGo - 1 else before.toGo
              hitPos := if begins = true then before.history.length + 1 else before.hitPos
              skipped := before.skipped || captures && decide (before.capState ≠ .empty) }
          flags := if fills = true then struck ||| Event.captureFull.bit else struck },
        left)

/-! ### Record Link Framer -/

/-- R168, R169, R173 to R176, R204: the bytes that the buffer, its answers and its other frames occupy; the admission of a frame
outside the reserve and its refusal, the admission of an answer and its wait, and what a frame carries from its admission on. -/
def Obligations.FramesAreAdmittedOrRefused : Prop :=
  (∀ s : State,
    let bytes (keep : Payload → Bool) : Nat :=
      ((s.rlf.buffer.filter fun f => keep f.payload).map fun f => f.payload.frameLength).sum
    s.bufferBytes = bytes (fun _ => true) ∧ s.rspBytes = bytes (fun p => decide (p.kind = 0x86#8)) ∧
      s.otherBytes = bytes (fun p => decide (p.kind ≠ 0x86#8)) ∧
      ∀ p : Payload, s.fitsFreeSpace p = true ↔ s.bufferBytes + p.frameLength ≤ 24576) ∧
  (∀ p : Payload,
    p.isPts = decide (p.kind = 0x81#8) ∧ (∀ rs : List PointRecord, p = .pts rs → p.points = rs.length) ∧
      (p.isPts = false → p.points = 0)) ∧
  ∀ (s : State) (p : Payload),
    let gap := p.isPts && s.rlf.gap
    let frame : OutFrame :=
      { payload := p, summary := summaryOf s.params.statusSelect s.flags, gap := gap
        check := frameCheck p (summaryOf s.params.statusSelect s.flags) gap }
    let joined : State :=
      { s with
        rlf :=
          { s.rlf with
            buffer := s.rlf.buffer ++ [frame]
            gap := s.rlf.gap && !p.isPts
            departing := s.rlf.departing || (s.rlf.buffer.isEmpty && s.pins.recReady) } }
    let fits := s.rlf.waiting = [] ∧ s.otherBytes + max s.rspBytes 5120 + p.frameLength ≤ 24576
    (fits → s.offer p = joined) ∧
    (¬fits → s.offer p =
      { s with
        flags := s.flags ||| Event.outOverrun.bit
        rlf := { s.rlf with gap := true, dropped := min (2 ^ 32 - 1) (s.rlf.dropped + p.points) } }) ∧
    ∀ a : Answer, p = .rsp a →
      (s.rlf.waiting = [] ∧ s.bufferBytes + p.frameLength ≤ 24576 → s.offerAnswer a = joined) ∧
      (¬(s.rlf.waiting = [] ∧ s.bufferBytes + p.frameLength ≤ 24576) →
        s.offerAnswer a = { s with rlf := { s.rlf with waiting := s.rlf.waiting ++ [a] } })

/-- R174, R176: REC_READY_RISE starts the oldest frame; a departure's end frees its bytes, admits waiting answers and starts the
next frame; waiting answers are admitted from the front while they fit. With no frame leaving, FRAME_DEPARTURE_END removes
nothing: its lines come to their levels, and a REC_READY found risen starts the oldest frame (log entries 2 and 10). R172: the
batch age test closes and offers an open batch older than BatchFlushTicks in stream time, and the row BATCH_FLUSH is that test
alone (log entry 10; with stream time unset no age exists, log entry 28). R170, R171: closing an open batch empties it and
offers its records as a PTS, closing an empty one does nothing, and a marker is offered behind a close. -/
def Obligations.DeparturesAndBatchAge : Prop :=
  (∀ s : State,
    exec .recReadyRise s = .next
      (State.settleRead
        { s with
          pins := { s.pins with recReady := true }
          rlf := { s.rlf with departing := s.rlf.departing || !s.rlf.buffer.isEmpty } }) ∧
    (∀ l : Lines, s.rlf.departing = false →
      exec (.frameDepartureEnd l) s = .next
        (State.settleRead
          { s with
            pins := { s.pins with calEn := l.calEn, recReady := l.recReady }
            rlf := { s.rlf with departing := l.recReady && !s.pins.recReady && !s.rlf.buffer.isEmpty } })) ∧
    (∀ l : Lines, s.rlf.departing = true →
      let u : State :=
        State.admitAnswers
          { s with
            pins := { s.pins with calEn := l.calEn, recReady := l.recReady }
            rlf := { s.rlf with buffer := s.rlf.buffer.tail, departing := false } }
      exec (.frameDepartureEnd l) s = .next
        (State.settleRead
          { u with rlf := { u.rlf with departing := u.rlf.departing || (!u.rlf.buffer.isEmpty && l.recReady) } })) ∧
    exec .rspWaitAdmit s = .next s.admitAnswers.settleRead ∧
    (s.rlf.waiting = [] → s.admitAnswers = s) ∧
    (∀ (a : Answer) (rest : List Answer), s.rlf.waiting = a :: rest → s.fitsFreeSpace (.rsp a) = false →
      s.admitAnswers = s) ∧
    (∀ (a : Answer) (rest : List Answer), s.rlf.waiting = a :: rest → s.fitsFreeSpace (.rsp a) = true →
      s.admitAnswers = (State.admitFrame { s with rlf := { s.rlf with waiting := rest } } (.rsp a)).admitAnswers) ∧
    ∃ k : Nat, k ≤ s.rlf.waiting.length ∧
      s.admitAnswers.rlf.waiting = s.rlf.waiting.drop k ∧
      s.admitAnswers.rlf.buffer.map OutFrame.payload =
        s.rlf.buffer.map OutFrame.payload ++ (s.rlf.waiting.take k).map Payload.rsp ∧
      ∀ a ∈ s.admitAnswers.rlf.waiting.head?, s.admitAnswers.fitsFreeSpace (.rsp a) = false) ∧
  ∀ s : State,
    let closed := State.offer { s with rlf := { s.rlf with batch := [] } } (.pts s.rlf.batch)
    (s.rlf.batch ≠ [] → s.closeBatch = closed) ∧
    (s.rlf.batch = [] → s.closeBatch = s) ∧
    (∀ marker : Payload, s.offerMarker marker = s.closeBatch.offer marker) ∧
    exec .batchFlush s = .next s.batchAgeTest.settleRead ∧
    (∀ (now : Timestamp) (r : PointRecord) (rest : List PointRecord), s.hlr.streamTime = some now →
      s.rlf.batch = r :: rest →
      (s.params.batchFlush < (now - r.tFire).toNat → s.batchAgeTest = closed) ∧
      ((now - r.tFire).toNat ≤ s.params.batchFlush → s.batchAgeTest = s)) ∧
    (s.rlf.batch = [] ∨ s.hlr.streamTime = none → s.batchAgeTest = s)

/-! ### Events -/

/-- R178, R179, R180: READ_EVENTS reports the flags (in a word whose bits 31 to 24 are zero: log entry 32) and keeps those of
KeepMask, CLEAR_EVENTS clears those its mask names and
refuses an id above 23, and the alert lines follow mask and polarity and are low while RESET_N is asserted. -/
def Obligations.EventsAreReadAndCleared : Prop :=
  ∀ (tag : Byte) (s : State),
    (s.takes →
      exec (.readEvents tag []) s = .next
        (State.respond { s.passed with flags := s.flags &&& s.params.keepMask } tag 0x03#8 .ok
          (0x00#8 :: beBytes 3 s.flags.toNat))) ∧
    (∀ b3 b2 b1 b0 : Byte, s.takes →
      exec (.clearEvents tag [b3, b2, b1, b0]) s = .next
        (if b3 = 0x00#8 then State.respond { s.passed with flags := s.flags &&& ~~~(b2 ++ b1 ++ b0) } tag 0x04#8 .ok []
        else s.passed.respond tag 0x04#8 .badArgument [])) ∧
    (s.pins.resetHeld = true → s.alertA = false ∧ s.alertB = false) ∧
    (s.pins.resetHeld = false →
      (s.alertA = true ↔ (s.params.alertPolA = .high ↔ s.flags &&& s.params.alertMaskA ≠ 0)) ∧
      (s.alertB = true ↔ (s.params.alertPolB = .high ↔ s.flags &&& s.params.alertMaskB ≠ 0)))

/-! ### Command Interpreter -/

/-- R184, R185: a delivered CMD is taken at once when no read is in execution and no command waits; otherwise it joins the tail
of a queue of at most 4 or is answered BUSY. A TABLE_STATE, SET_PROTECT or RESET that is queued or answered BUSY still brings
the input lines to the levels it carries (State.atLines, log entry 2), and a row UNKNOWN_COMMAND with a code that names a
command acts as that command (log entry 27). R121, R186: at the end of a row a read with its last entry is answered, and with no
read in execution the interpreter takes queued commands from the front, a free number of them before the next row (log entry
26), each whole before the next, until a TABLE_READ goes into execution or none waits. A command taken from the queue, whatever
the link state and the commands behind it, does what it does when it is taken at its delivery with none behind it, and leaves
those commands in the queue; RESET and GET_STATUS, which see the queue or the link, stand in SoftResetKeepsTheSettings and
IdentityStatusAndParametersAreReported. R187: a code that names no command is answered UNKNOWN_COMMAND, and a command of fixed
length with another number of argument bytes MALFORMED; neither changes any state. -/
def Obligations.CommandsAreTakenQueuedOrRefused : Prop :=
  (∀ (i : Instr) (c : Command) (o : Option Lines) (s : State), recordOf i = some (.cmd c, o) → s.listens →
    c.args.length ≤ 1024 →
    let u := (s.atLines o).passed
    let free := s.cmi.reading = none ∧ s.cmi.queue = []
    (free → exec i s = .next (u.takeCommand c)) ∧
    (¬free → s.cmi.queue.length < 4 →
      exec i s = .next (State.settleRead { u with cmi := { s.cmi with queue := s.cmi.queue ++ [c] } })) ∧
    (¬free → 4 ≤ s.cmi.queue.length → exec i s = .next (u.respond c.tag c.code .busy []).settleRead)) ∧
  (∀ s : State,
    (s.cmi.reading = none → s.settleRead = s.takeQueued) ∧
    (∀ r : Reading, s.cmi.reading = some r → r.done < r.count → s.settleRead = s) ∧
    (∀ r : Reading, s.cmi.reading = some r → r.count ≤ r.done →
      s.settleRead =
        (State.respond { s with cmi := { s.cmi with reading := none } } r.tag 0x08#8 .ok
          ([BitVec.ofNat 8 r.table.number, if r.bank = .active then 1 else 0, BitVec.ofNat 8 r.start, BitVec.ofNat 8 r.count,
              r.firstGen, r.lastGen, if r.split then 1 else 0, 0] ++ r.entries)).takeQueued) ∧
    (s.cmi.reading ≠ none ∨ s.cmi.queue = [] → s.takeQueued = s) ∧
    (s.cmi.reading = none → s.cmi.queue ≠ [] →
      ∃ n : Nat, s.takeQueued = drainCommands n { s with freeCount := s.freeCount + 1 }) ∧
    drainCommands 0 s = s ∧
    ∀ n : Nat,
      (s.cmi.reading ≠ none ∨ s.cmi.queue = [] → drainCommands n s = s) ∧
      ∀ (c : Command) (rest : List Command), s.cmi.reading = none → s.cmi.queue = c :: rest →
        drainCommands (n + 1) s = drainCommands n (State.takeCommand { s with cmi := { s.cmi with queue := rest } } c)) ∧
  (∀ (s : State) (c : Command) (hlr : Hlr) (rest : List Command),
    ¬(c.args = [] ∧ (c.code = 0x02#8 ∨ c.code = 0x14#8)) →
    let alone := State.takeCommand { s with cmi := { reading := none, queue := [] } } c
    State.takeCommand { s with hlr := hlr, cmi := { reading := none, queue := rest } } c =
      { alone with hlr := hlr, cmi := { alone.cmi with queue := rest } }) ∧
  (∀ (tag : Byte) (args : List Byte) (s : State), s.takes → args.length ≤ 1024 →
    (∀ code : Byte, code.toNat = 0 ∨ 20 < code.toNat →
      exec (.unknownCommand tag code args) s = .next (s.passed.respond tag code .unknownCommand [])) ∧
    (∀ x ∈
        [(Instr.identify tag args, 0x01#8, 0), (.getStatus tag args, 0x02#8, 0), (.readEvents tag args, 0x03#8, 0),
          (.clearEvents tag args, 0x04#8, 4), (.setParam tag args, 0x05#8, 5), (.getParam tag args, 0x06#8, 1),
          (.tableRead tag args, 0x08#8, 4), (.tableCommit tag args, 0x09#8, 1), (.tableCancel tag args, 0x0A#8, 1),
          (.start tag args, 0x0D#8, 0), (.stop tag args, 0x0E#8, 0), (.resync tag args, 0x0F#8, 0),
          (.triggerSet tag args, 0x10#8, 32), (.triggerArm tag args, 0x11#8, 0), (.triggerRead tag args, 0x12#8, 0),
          (.captureRead tag args, 0x13#8, 0)],
      args.length ≠ x.2.2 → exec x.1 s = .next (s.passed.respond tag x.2.1 .malformed [])) ∧
    (args.length < 2 → exec (.tableWrite tag args) s = .next (s.passed.respond tag 0x07#8 .malformed [])) ∧
    ∀ l : Lines,
      let u := (s.withLines l).passed
      (args.length ≠ 0 → exec (.tableState tag args l) s = .next (u.respond tag 0x0B#8 .malformed [])) ∧
      (args.length ≠ 4 → exec (.setProtect tag args l) s = .next (u.respond tag 0x0C#8 .malformed [])) ∧
      (args.length ≠ 0 → exec (.reset tag args l) s = .next (u.respond tag 0x14#8 .malformed [])))

/-- R189, R190, section 11.4: IDENTIFY and GET_STATUS are answered OK and change no state; the bytes of their answers, the
revision being a free value (log entry 4). R186: a GET_STATUS taken from the queue reports the state it finds, in HUNT too.
R192: GET_PARAM answers the id and the value held, in every run state, and changes no state. -/
def Obligations.IdentityStatusAndParametersAreReported : Prop :=
  (∀ (tag id : Byte) (s : State), s.takes →
    let u := s.passed
    exec (.getParam tag [id]) s = .next
      (match s.params.value id.toNat with
      | none => u.respond tag 0x06#8 .badArgument []
      | some held =>
        if s.variant = .p4m ∧ (id.toNat = 9 ∨ id.toNat = 10) then u.respond tag 0x06#8 .notSupported []
        else u.respond tag 0x06#8 .ok (id :: beBytes 4 held))) ∧
  let status (s : State) : List Byte :=
    [byte s.emq.run.code, byte s.ant.mirror.state.code, byte s.ant.azimuth.state.code, byte s.hlr.link.code, s.tbs.generation,
        byte s.emq.queue.length] ++
      beBytes 2 s.eca.free ++ beBytes 4 s.emq.accepted.toNat ++ beBytes 4 s.emq.closed.toNat ++
      beBytes 4 s.emq.flushed.toNat ++ beBytes 2 s.emq.evicted ++ beBytes 4 s.eca.orphans.toNat ++
      beBytes 4 s.eca.ambiguous.toNat ++ beBytes 2 s.hlr.rejected ++ beBytes 4 s.rlf.dropped ++
      [byte (resyncCode s.emq.lastResync), byte (if s.variant = .p4c then s.exu.queue.length else 0),
        byte (if s.variant = .p4c then s.exu.tiles.length else 0)]
  (∀ (tag : Byte) (s : State),
    State.takeCommand s { tag := tag, code := 0x02#8, args := [] } = s.respond tag 0x02#8 .ok (status s)) ∧
  ∀ (tag : Byte) (s : State), s.takes →
    exec (.identify tag []) s = .next
      (s.passed.respond tag 0x01#8 .ok
        (match s.variant with
        | .p4c =>
          [0x4B, 0x56, 0x50, 0x34, 0x01, Config.revision, 128, 0x02, 0x00, 64, 8, 8, 4, 16, 32, 4, 0x60, 0x00, 0x14, 0x00]
        | .p4m =>
          [0x4B, 0x56, 0x50, 0x34, 0x02, Config.revision, 128, 0x02, 0x00, 64, 7, 0, 0, 16, 32, 4, 0x60, 0x00, 0x14,
            0x00])) ∧
    exec (.getStatus tag []) s = .next (s.passed.respond tag 0x02#8 .ok (status s))

/-- R191, R19: SET_PARAM: the checks in their order, each refusal with the id and the value held; a taken write, with what a
differing width or Facets does to the tracker. That the counts, the step and the runs of a channel so unlocked are 0 is the
model's choice (log entry 17). -/
def Obligations.SetParamIsCheckedInOrder : Prop :=
  ∀ (tag id v3 v2 v1 v0 : Byte) (s : State), s.takes →
    let u := s.passed
    let word := beNat [v3, v2, v1, v0]
    let unlocked : Channel :=
      { state := .unlocked, ref := 0, samples := 0, last := 0, step := 0, rejectRun := 0, goodRun := 0, used := 0 }
    exec (.setParam tag [id, v3, v2, v1, v0]) s = .next
      (match s.params.value id.toNat with
      | none => u.respond tag 0x05#8 .badArgument [id, 0, 0, 0, 0]
      | some held =>
        let answer (result : ResultCode) : State := u.respond tag 0x05#8 result (id :: beBytes 4 held)
        if s.variant = .p4m ∧ (id.toNat = 9 ∨ id.toNat = 10) then answer .notSupported
        else if id.toNat ≤ 10 ∧ s.emq.run ≠ .stopped then answer .wrongState
        else
          match s.params.write id.toNat word with
          | none => answer .badArgument
          | some new =>
            State.respond
              { u with
                params := new
                ant :=
                  { s.ant with
                    mirror := if s.params.mirrorBits = new.mirrorBits then s.ant.mirror else unlocked
                    azimuth := if s.params.azBits = new.azBits then s.ant.azimuth else unlocked
                    lastFacet := if s.params.facets = new.facets then s.ant.lastFacet else none } }
              tag 0x05#8 .ok (id :: beBytes 4 ((new.value id.toNat).getD 0)))

/-- R191, R181, R203, section 10.6: the parameters in the order of their ids, and a write of one: numbers are clamped to their
ranges; a value outside an enumerated list, a StatusSelect entry that names no event, a mask that names an id above 23 and a pair
of Facets 1 with Deflection 2 are refused; a taken value is the one held after, and every other parameter stays. -/
def Obligations.ParameterWritesClampAndHold : Prop :=
  ∀ p : Params, p.statusSelect.length = 8 →
    let held : List Nat :=
      [p.mirrorBits, p.azBits, p.mirrorVarLimit, p.azVarLimit, p.mirrorIndexMargin, p.azIndexMargin, p.facets, p.deflection,
        if p.azSign = .plus then 0 else 1, if p.camEnable = true then 1 else 0, p.camLead, p.timeSlack, p.batchFlush] ++
      p.statusSelect ++
      [p.alertMaskA.toNat, p.alertMaskB.toNat, if p.alertPolA = .high then 0 else 1, if p.alertPolB = .high then 0 else 1,
        p.keepMask.toNat]
    let ranges : List (Nat × Nat × Nat) :=
      [(0, 12, 20), (1, 16, 24), (2, 1, 65535), (3, 1, 65535), (4, 0, 255), (5, 0, 255), (10, 0, 2 ^ 23), (11, 0, 4095),
        (12, 1, 2 ^ 32 - 1)]
    let lists : List (Nat × List Nat) :=
      [(6, [1, 2, 4, 8]), (7, [1, 2]), (8, [0, 1]), (9, [0, 1]), (23, [0, 1]), (24, [0, 1])]
    (∀ id : Nat, p.value id = held[id]?) ∧
    ∀ word : Nat,
      (∀ x ∈ ranges, ∃ q, p.write x.1 word = some q ∧ q.value x.1 = some (max x.2.1 (min x.2.2 word))) ∧
      (∀ x ∈ lists,
        ((p.write x.1 word).isSome = true ↔
          word ∈ x.2 ∧ ¬(x.1 = 6 ∧ word = 1 ∧ p.deflection = 2) ∧ ¬(x.1 = 7 ∧ word = 2 ∧ p.facets = 1))) ∧
      (∀ id : Nat, 13 ≤ id → id ≤ 20 → ((p.write id word).isSome = true ↔ word ≤ 23 ∨ word = 31)) ∧
      (∀ id ∈ [21, 22, 25], ((p.write id word).isSome = true ↔ word < 2 ^ 24)) ∧
      (∀ id : Nat, 26 ≤ id → p.write id word = none) ∧
      ∀ (id : Nat) (q : Params), p.write id word = some q →
        q.statusSelect.length = 8 ∧ (∀ j : Nat, j ≠ id → q.value j = p.value j) ∧
          (id ∉ ranges.map Prod.fst → q.value id = some word)

/-! ### Invariants that every step keeps -/

/-- R54, R64: the echo pool and the pulse accounts balance. -/
def Obligations.PoolAndAccountsBalance : Prop :=
  ∀ s t : State, s.poolBalanced → s.accountsBalance → step s = .next t → t.poolBalanced ∧ t.accountsBalance

/-- R39: the Emission Queue keeps its capacity and its order, and is empty in STOPPED and WAITING. -/
def Obligations.QueueStaysInOrder : Prop :=
  ∀ s t : State, s.queueInOrder → step s = .next t → t.queueInOrder

/-- R64, R65, R81, R112, R45: open pulses carry the current generation or the one before, with ordered lists of at most MaxEchoes
entries within their windows, and elevations within 24 bits. -/
def Obligations.PulsesStayServed : Prop :=
  ∀ s t : State, s.pulsesServed → step s = .next t → t.pulsesServed

/-- R103, R105: banks keep their sizes, CLEAN tables agree with ACTIVE and EMPTY ones are all zeros. -/
def Obligations.BanksStayInAgreement : Prop :=
  ∀ s t : State, s.banksAgree → step s = .next t → t.banksAgree

/-- R133, R149: records and tiles keep their capacities and distinct numbers, and a P4M holds none. -/
def Obligations.ExposuresStayDistinct : Prop :=
  ∀ s t : State, s.exposuresDistinct → step s = .next t → t.exposuresDistinct

/-- R157, R160 to R164: the Trigger Unit's counts and buffers keep the values of section 8.1. -/
def Obligations.TriggerStaysConsistent : Prop :=
  ∀ s t : State, s.tru.consistent → step s = .next t → t.tru.consistent

/-- R170, R173 to R176, R204: the framer's limits hold, its front answer waits only for want of space, and every frame held is
sealed. -/
def Obligations.FramerStaysConsistent : Prop :=
  ∀ s t : State, s.framerConsistent → step s = .next t → t.framerConsistent

/-- R119, R121, R184, R185: at most 4 commands wait, a read in execution has a fetch to make, and the port's count keeps its
limit. -/
def Obligations.CommandsStayConsistent : Prop :=
  ∀ s t : State, s.commandsConsistent → step s = .next t → t.commandsConsistent

/-- R2, R4, R7, R18, R22 to R25: receiver, channels and parameters keep the ranges of their chapters. -/
def Obligations.TrackerStaysConsistent : Prop :=
  ∀ s t : State, s.trackerConsistent → step s = .next t → t.trackerConsistent

/-- The state after a power-on reset meets every invariant stated above. That it is a P4C's is log entry 1, and that its input
lines are low is log entry 2. -/
def Obligations.ResetMeetsTheInvariants : Prop :=
  State.reset.poolBalanced ∧ State.reset.accountsBalance ∧ State.reset.queueInOrder ∧ State.reset.pulsesServed ∧
    State.reset.banksAgree ∧ State.reset.exposuresDistinct ∧ State.reset.tru.consistent ∧
    State.reset.framerConsistent ∧ State.reset.commandsConsistent ∧ State.reset.trackerConsistent
end

