-- ==== Sys2Proof/Laws/State.lean ====
section
/-! SUPPORT. One lemma for each field of the state under each named update: the updated block, and every other block unchanged. -/

namespace Sys2Proof.Machine

variable (s : State)

/-! ### onPins -/

@[simp] theorem State.onPins_variant (f : Pins → Pins) : (s.onPins f).variant = s.variant := rfl
@[simp] theorem State.onPins_pins (f : Pins → Pins) : (s.onPins f).pins = f s.pins := rfl
@[simp] theorem State.onPins_params (f : Pins → Pins) : (s.onPins f).params = s.params := rfl
@[simp] theorem State.onPins_hlr (f : Pins → Pins) : (s.onPins f).hlr = s.hlr := rfl
@[simp] theorem State.onPins_ant (f : Pins → Pins) : (s.onPins f).ant = s.ant := rfl
@[simp] theorem State.onPins_emq (f : Pins → Pins) : (s.onPins f).emq = s.emq := rfl
@[simp] theorem State.onPins_eca (f : Pins → Pins) : (s.onPins f).eca = s.eca := rfl
@[simp] theorem State.onPins_ptf (f : Pins → Pins) : (s.onPins f).ptf = s.ptf := rfl
@[simp] theorem State.onPins_tbs (f : Pins → Pins) : (s.onPins f).tbs = s.tbs := rfl
@[simp] theorem State.onPins_exu (f : Pins → Pins) : (s.onPins f).exu = s.exu := rfl
@[simp] theorem State.onPins_tru (f : Pins → Pins) : (s.onPins f).tru = s.tru := rfl
@[simp] theorem State.onPins_rlf (f : Pins → Pins) : (s.onPins f).rlf = s.rlf := rfl
@[simp] theorem State.onPins_flags (f : Pins → Pins) : (s.onPins f).flags = s.flags := rfl
@[simp] theorem State.onPins_cmi (f : Pins → Pins) : (s.onPins f).cmi = s.cmi := rfl
@[simp] theorem State.onPins_freeCount (f : Pins → Pins) : (s.onPins f).freeCount = s.freeCount := rfl
@[simp] theorem State.onPins_pending (f : Pins → Pins) : (s.onPins f).pending = s.pending := rfl

/-! ### onParams -/

@[simp] theorem State.onParams_variant (f : Params → Params) : (s.onParams f).variant = s.variant := rfl
@[simp] theorem State.onParams_pins (f : Params → Params) : (s.onParams f).pins = s.pins := rfl
@[simp] theorem State.onParams_params (f : Params → Params) : (s.onParams f).params = f s.params := rfl
@[simp] theorem State.onParams_hlr (f : Params → Params) : (s.onParams f).hlr = s.hlr := rfl
@[simp] theorem State.onParams_ant (f : Params → Params) : (s.onParams f).ant = s.ant := rfl
@[simp] theorem State.onParams_emq (f : Params → Params) : (s.onParams f).emq = s.emq := rfl
@[simp] theorem State.onParams_eca (f : Params → Params) : (s.onParams f).eca = s.eca := rfl
@[simp] theorem State.onParams_ptf (f : Params → Params) : (s.onParams f).ptf = s.ptf := rfl
@[simp] theorem State.onParams_tbs (f : Params → Params) : (s.onParams f).tbs = s.tbs := rfl
@[simp] theorem State.onParams_exu (f : Params → Params) : (s.onParams f).exu = s.exu := rfl
@[simp] theorem State.onParams_tru (f : Params → Params) : (s.onParams f).tru = s.tru := rfl
@[simp] theorem State.onParams_rlf (f : Params → Params) : (s.onParams f).rlf = s.rlf := rfl
@[simp] theorem State.onParams_flags (f : Params → Params) : (s.onParams f).flags = s.flags := rfl
@[simp] theorem State.onParams_cmi (f : Params → Params) : (s.onParams f).cmi = s.cmi := rfl
@[simp] theorem State.onParams_freeCount (f : Params → Params) : (s.onParams f).freeCount = s.freeCount := rfl
@[simp] theorem State.onParams_pending (f : Params → Params) : (s.onParams f).pending = s.pending := rfl

/-! ### onHlr -/

@[simp] theorem State.onHlr_variant (f : Hlr → Hlr) : (s.onHlr f).variant = s.variant := rfl
@[simp] theorem State.onHlr_pins (f : Hlr → Hlr) : (s.onHlr f).pins = s.pins := rfl
@[simp] theorem State.onHlr_params (f : Hlr → Hlr) : (s.onHlr f).params = s.params := rfl
@[simp] theorem State.onHlr_hlr (f : Hlr → Hlr) : (s.onHlr f).hlr = f s.hlr := rfl
@[simp] theorem State.onHlr_ant (f : Hlr → Hlr) : (s.onHlr f).ant = s.ant := rfl
@[simp] theorem State.onHlr_emq (f : Hlr → Hlr) : (s.onHlr f).emq = s.emq := rfl
@[simp] theorem State.onHlr_eca (f : Hlr → Hlr) : (s.onHlr f).eca = s.eca := rfl
@[simp] theorem State.onHlr_ptf (f : Hlr → Hlr) : (s.onHlr f).ptf = s.ptf := rfl
@[simp] theorem State.onHlr_tbs (f : Hlr → Hlr) : (s.onHlr f).tbs = s.tbs := rfl
@[simp] theorem State.onHlr_exu (f : Hlr → Hlr) : (s.onHlr f).exu = s.exu := rfl
@[simp] theorem State.onHlr_tru (f : Hlr → Hlr) : (s.onHlr f).tru = s.tru := rfl
@[simp] theorem State.onHlr_rlf (f : Hlr → Hlr) : (s.onHlr f).rlf = s.rlf := rfl
@[simp] theorem State.onHlr_flags (f : Hlr → Hlr) : (s.onHlr f).flags = s.flags := rfl
@[simp] theorem State.onHlr_cmi (f : Hlr → Hlr) : (s.onHlr f).cmi = s.cmi := rfl
@[simp] theorem State.onHlr_freeCount (f : Hlr → Hlr) : (s.onHlr f).freeCount = s.freeCount := rfl
@[simp] theorem State.onHlr_pending (f : Hlr → Hlr) : (s.onHlr f).pending = s.pending := rfl

/-! ### onAnt -/

@[simp] theorem State.onAnt_variant (f : Ant → Ant) : (s.onAnt f).variant = s.variant := rfl
@[simp] theorem State.onAnt_pins (f : Ant → Ant) : (s.onAnt f).pins = s.pins := rfl
@[simp] theorem State.onAnt_params (f : Ant → Ant) : (s.onAnt f).params = s.params := rfl
@[simp] theorem State.onAnt_hlr (f : Ant → Ant) : (s.onAnt f).hlr = s.hlr := rfl
@[simp] theorem State.onAnt_ant (f : Ant → Ant) : (s.onAnt f).ant = f s.ant := rfl
@[simp] theorem State.onAnt_emq (f : Ant → Ant) : (s.onAnt f).emq = s.emq := rfl
@[simp] theorem State.onAnt_eca (f : Ant → Ant) : (s.onAnt f).eca = s.eca := rfl
@[simp] theorem State.onAnt_ptf (f : Ant → Ant) : (s.onAnt f).ptf = s.ptf := rfl
@[simp] theorem State.onAnt_tbs (f : Ant → Ant) : (s.onAnt f).tbs = s.tbs := rfl
@[simp] theorem State.onAnt_exu (f : Ant → Ant) : (s.onAnt f).exu = s.exu := rfl
@[simp] theorem State.onAnt_tru (f : Ant → Ant) : (s.onAnt f).tru = s.tru := rfl
@[simp] theorem State.onAnt_rlf (f : Ant → Ant) : (s.onAnt f).rlf = s.rlf := rfl
@[simp] theorem State.onAnt_flags (f : Ant → Ant) : (s.onAnt f).flags = s.flags := rfl
@[simp] theorem State.onAnt_cmi (f : Ant → Ant) : (s.onAnt f).cmi = s.cmi := rfl
@[simp] theorem State.onAnt_freeCount (f : Ant → Ant) : (s.onAnt f).freeCount = s.freeCount := rfl
@[simp] theorem State.onAnt_pending (f : Ant → Ant) : (s.onAnt f).pending = s.pending := rfl

/-! ### onEmq -/

@[simp] theorem State.onEmq_variant (f : Emq → Emq) : (s.onEmq f).variant = s.variant := rfl
@[simp] theorem State.onEmq_pins (f : Emq → Emq) : (s.onEmq f).pins = s.pins := rfl
@[simp] theorem State.onEmq_params (f : Emq → Emq) : (s.onEmq f).params = s.params := rfl
@[simp] theorem State.onEmq_hlr (f : Emq → Emq) : (s.onEmq f).hlr = s.hlr := rfl
@[simp] theorem State.onEmq_ant (f : Emq → Emq) : (s.onEmq f).ant = s.ant := rfl
@[simp] theorem State.onEmq_emq (f : Emq → Emq) : (s.onEmq f).emq = f s.emq := rfl
@[simp] theorem State.onEmq_eca (f : Emq → Emq) : (s.onEmq f).eca = s.eca := rfl
@[simp] theorem State.onEmq_ptf (f : Emq → Emq) : (s.onEmq f).ptf = s.ptf := rfl
@[simp] theorem State.onEmq_tbs (f : Emq → Emq) : (s.onEmq f).tbs = s.tbs := rfl
@[simp] theorem State.onEmq_exu (f : Emq → Emq) : (s.onEmq f).exu = s.exu := rfl
@[simp] theorem State.onEmq_tru (f : Emq → Emq) : (s.onEmq f).tru = s.tru := rfl
@[simp] theorem State.onEmq_rlf (f : Emq → Emq) : (s.onEmq f).rlf = s.rlf := rfl
@[simp] theorem State.onEmq_flags (f : Emq → Emq) : (s.onEmq f).flags = s.flags := rfl
@[simp] theorem State.onEmq_cmi (f : Emq → Emq) : (s.onEmq f).cmi = s.cmi := rfl
@[simp] theorem State.onEmq_freeCount (f : Emq → Emq) : (s.onEmq f).freeCount = s.freeCount := rfl
@[simp] theorem State.onEmq_pending (f : Emq → Emq) : (s.onEmq f).pending = s.pending := rfl

/-! ### onEca -/

@[simp] theorem State.onEca_variant (f : Eca → Eca) : (s.onEca f).variant = s.variant := rfl
@[simp] theorem State.onEca_pins (f : Eca → Eca) : (s.onEca f).pins = s.pins := rfl
@[simp] theorem State.onEca_params (f : Eca → Eca) : (s.onEca f).params = s.params := rfl
@[simp] theorem State.onEca_hlr (f : Eca → Eca) : (s.onEca f).hlr = s.hlr := rfl
@[simp] theorem State.onEca_ant (f : Eca → Eca) : (s.onEca f).ant = s.ant := rfl
@[simp] theorem State.onEca_emq (f : Eca → Eca) : (s.onEca f).emq = s.emq := rfl
@[simp] theorem State.onEca_eca (f : Eca → Eca) : (s.onEca f).eca = f s.eca := rfl
@[simp] theorem State.onEca_ptf (f : Eca → Eca) : (s.onEca f).ptf = s.ptf := rfl
@[simp] theorem State.onEca_tbs (f : Eca → Eca) : (s.onEca f).tbs = s.tbs := rfl
@[simp] theorem State.onEca_exu (f : Eca → Eca) : (s.onEca f).exu = s.exu := rfl
@[simp] theorem State.onEca_tru (f : Eca → Eca) : (s.onEca f).tru = s.tru := rfl
@[simp] theorem State.onEca_rlf (f : Eca → Eca) : (s.onEca f).rlf = s.rlf := rfl
@[simp] theorem State.onEca_flags (f : Eca → Eca) : (s.onEca f).flags = s.flags := rfl
@[simp] theorem State.onEca_cmi (f : Eca → Eca) : (s.onEca f).cmi = s.cmi := rfl
@[simp] theorem State.onEca_freeCount (f : Eca → Eca) : (s.onEca f).freeCount = s.freeCount := rfl
@[simp] theorem State.onEca_pending (f : Eca → Eca) : (s.onEca f).pending = s.pending := rfl

/-! ### onPtf -/

@[simp] theorem State.onPtf_variant (f : Ptf → Ptf) : (s.onPtf f).variant = s.variant := rfl
@[simp] theorem State.onPtf_pins (f : Ptf → Ptf) : (s.onPtf f).pins = s.pins := rfl
@[simp] theorem State.onPtf_params (f : Ptf → Ptf) : (s.onPtf f).params = s.params := rfl
@[simp] theorem State.onPtf_hlr (f : Ptf → Ptf) : (s.onPtf f).hlr = s.hlr := rfl
@[simp] theorem State.onPtf_ant (f : Ptf → Ptf) : (s.onPtf f).ant = s.ant := rfl
@[simp] theorem State.onPtf_emq (f : Ptf → Ptf) : (s.onPtf f).emq = s.emq := rfl
@[simp] theorem State.onPtf_eca (f : Ptf → Ptf) : (s.onPtf f).eca = s.eca := rfl
@[simp] theorem State.onPtf_ptf (f : Ptf → Ptf) : (s.onPtf f).ptf = f s.ptf := rfl
@[simp] theorem State.onPtf_tbs (f : Ptf → Ptf) : (s.onPtf f).tbs = s.tbs := rfl
@[simp] theorem State.onPtf_exu (f : Ptf → Ptf) : (s.onPtf f).exu = s.exu := rfl
@[simp] theorem State.onPtf_tru (f : Ptf → Ptf) : (s.onPtf f).tru = s.tru := rfl
@[simp] theorem State.onPtf_rlf (f : Ptf → Ptf) : (s.onPtf f).rlf = s.rlf := rfl
@[simp] theorem State.onPtf_flags (f : Ptf → Ptf) : (s.onPtf f).flags = s.flags := rfl
@[simp] theorem State.onPtf_cmi (f : Ptf → Ptf) : (s.onPtf f).cmi = s.cmi := rfl
@[simp] theorem State.onPtf_freeCount (f : Ptf → Ptf) : (s.onPtf f).freeCount = s.freeCount := rfl
@[simp] theorem State.onPtf_pending (f : Ptf → Ptf) : (s.onPtf f).pending = s.pending := rfl

/-! ### onTbs -/

@[simp] theorem State.onTbs_variant (f : Tbs → Tbs) : (s.onTbs f).variant = s.variant := rfl
@[simp] theorem State.onTbs_pins (f : Tbs → Tbs) : (s.onTbs f).pins = s.pins := rfl
@[simp] theorem State.onTbs_params (f : Tbs → Tbs) : (s.onTbs f).params = s.params := rfl
@[simp] theorem State.onTbs_hlr (f : Tbs → Tbs) : (s.onTbs f).hlr = s.hlr := rfl
@[simp] theorem State.onTbs_ant (f : Tbs → Tbs) : (s.onTbs f).ant = s.ant := rfl
@[simp] theorem State.onTbs_emq (f : Tbs → Tbs) : (s.onTbs f).emq = s.emq := rfl
@[simp] theorem State.onTbs_eca (f : Tbs → Tbs) : (s.onTbs f).eca = s.eca := rfl
@[simp] theorem State.onTbs_ptf (f : Tbs → Tbs) : (s.onTbs f).ptf = s.ptf := rfl
@[simp] theorem State.onTbs_tbs (f : Tbs → Tbs) : (s.onTbs f).tbs = f s.tbs := rfl
@[simp] theorem State.onTbs_exu (f : Tbs → Tbs) : (s.onTbs f).exu = s.exu := rfl
@[simp] theorem State.onTbs_tru (f : Tbs → Tbs) : (s.onTbs f).tru = s.tru := rfl
@[simp] theorem State.onTbs_rlf (f : Tbs → Tbs) : (s.onTbs f).rlf = s.rlf := rfl
@[simp] theorem State.onTbs_flags (f : Tbs → Tbs) : (s.onTbs f).flags = s.flags := rfl
@[simp] theorem State.onTbs_cmi (f : Tbs → Tbs) : (s.onTbs f).cmi = s.cmi := rfl
@[simp] theorem State.onTbs_freeCount (f : Tbs → Tbs) : (s.onTbs f).freeCount = s.freeCount := rfl
@[simp] theorem State.onTbs_pending (f : Tbs → Tbs) : (s.onTbs f).pending = s.pending := rfl

/-! ### onExu -/

@[simp] theorem State.onExu_variant (f : Exu → Exu) : (s.onExu f).variant = s.variant := rfl
@[simp] theorem State.onExu_pins (f : Exu → Exu) : (s.onExu f).pins = s.pins := rfl
@[simp] theorem State.onExu_params (f : Exu → Exu) : (s.onExu f).params = s.params := rfl
@[simp] theorem State.onExu_hlr (f : Exu → Exu) : (s.onExu f).hlr = s.hlr := rfl
@[simp] theorem State.onExu_ant (f : Exu → Exu) : (s.onExu f).ant = s.ant := rfl
@[simp] theorem State.onExu_emq (f : Exu → Exu) : (s.onExu f).emq = s.emq := rfl
@[simp] theorem State.onExu_eca (f : Exu → Exu) : (s.onExu f).eca = s.eca := rfl
@[simp] theorem State.onExu_ptf (f : Exu → Exu) : (s.onExu f).ptf = s.ptf := rfl
@[simp] theorem State.onExu_tbs (f : Exu → Exu) : (s.onExu f).tbs = s.tbs := rfl
@[simp] theorem State.onExu_exu (f : Exu → Exu) : (s.onExu f).exu = f s.exu := rfl
@[simp] theorem State.onExu_tru (f : Exu → Exu) : (s.onExu f).tru = s.tru := rfl
@[simp] theorem State.onExu_rlf (f : Exu → Exu) : (s.onExu f).rlf = s.rlf := rfl
@[simp] theorem State.onExu_flags (f : Exu → Exu) : (s.onExu f).flags = s.flags := rfl
@[simp] theorem State.onExu_cmi (f : Exu → Exu) : (s.onExu f).cmi = s.cmi := rfl
@[simp] theorem State.onExu_freeCount (f : Exu → Exu) : (s.onExu f).freeCount = s.freeCount := rfl
@[simp] theorem State.onExu_pending (f : Exu → Exu) : (s.onExu f).pending = s.pending := rfl

/-! ### onTru -/

@[simp] theorem State.onTru_variant (f : Tru → Tru) : (s.onTru f).variant = s.variant := rfl
@[simp] theorem State.onTru_pins (f : Tru → Tru) : (s.onTru f).pins = s.pins := rfl
@[simp] theorem State.onTru_params (f : Tru → Tru) : (s.onTru f).params = s.params := rfl
@[simp] theorem State.onTru_hlr (f : Tru → Tru) : (s.onTru f).hlr = s.hlr := rfl
@[simp] theorem State.onTru_ant (f : Tru → Tru) : (s.onTru f).ant = s.ant := rfl
@[simp] theorem State.onTru_emq (f : Tru → Tru) : (s.onTru f).emq = s.emq := rfl
@[simp] theorem State.onTru_eca (f : Tru → Tru) : (s.onTru f).eca = s.eca := rfl
@[simp] theorem State.onTru_ptf (f : Tru → Tru) : (s.onTru f).ptf = s.ptf := rfl
@[simp] theorem State.onTru_tbs (f : Tru → Tru) : (s.onTru f).tbs = s.tbs := rfl
@[simp] theorem State.onTru_exu (f : Tru → Tru) : (s.onTru f).exu = s.exu := rfl
@[simp] theorem State.onTru_tru (f : Tru → Tru) : (s.onTru f).tru = f s.tru := rfl
@[simp] theorem State.onTru_rlf (f : Tru → Tru) : (s.onTru f).rlf = s.rlf := rfl
@[simp] theorem State.onTru_flags (f : Tru → Tru) : (s.onTru f).flags = s.flags := rfl
@[simp] theorem State.onTru_cmi (f : Tru → Tru) : (s.onTru f).cmi = s.cmi := rfl
@[simp] theorem State.onTru_freeCount (f : Tru → Tru) : (s.onTru f).freeCount = s.freeCount := rfl
@[simp] theorem State.onTru_pending (f : Tru → Tru) : (s.onTru f).pending = s.pending := rfl

/-! ### onRlf -/

@[simp] theorem State.onRlf_variant (f : Rlf → Rlf) : (s.onRlf f).variant = s.variant := rfl
@[simp] theorem State.onRlf_pins (f : Rlf → Rlf) : (s.onRlf f).pins = s.pins := rfl
@[simp] theorem State.onRlf_params (f : Rlf → Rlf) : (s.onRlf f).params = s.params := rfl
@[simp] theorem State.onRlf_hlr (f : Rlf → Rlf) : (s.onRlf f).hlr = s.hlr := rfl
@[simp] theorem State.onRlf_ant (f : Rlf → Rlf) : (s.onRlf f).ant = s.ant := rfl
@[simp] theorem State.onRlf_emq (f : Rlf → Rlf) : (s.onRlf f).emq = s.emq := rfl
@[simp] theorem State.onRlf_eca (f : Rlf → Rlf) : (s.onRlf f).eca = s.eca := rfl
@[simp] theorem State.onRlf_ptf (f : Rlf → Rlf) : (s.onRlf f).ptf = s.ptf := rfl
@[simp] theorem State.onRlf_tbs (f : Rlf → Rlf) : (s.onRlf f).tbs = s.tbs := rfl
@[simp] theorem State.onRlf_exu (f : Rlf → Rlf) : (s.onRlf f).exu = s.exu := rfl
@[simp] theorem State.onRlf_tru (f : Rlf → Rlf) : (s.onRlf f).tru = s.tru := rfl
@[simp] theorem State.onRlf_rlf (f : Rlf → Rlf) : (s.onRlf f).rlf = f s.rlf := rfl
@[simp] theorem State.onRlf_flags (f : Rlf → Rlf) : (s.onRlf f).flags = s.flags := rfl
@[simp] theorem State.onRlf_cmi (f : Rlf → Rlf) : (s.onRlf f).cmi = s.cmi := rfl
@[simp] theorem State.onRlf_freeCount (f : Rlf → Rlf) : (s.onRlf f).freeCount = s.freeCount := rfl
@[simp] theorem State.onRlf_pending (f : Rlf → Rlf) : (s.onRlf f).pending = s.pending := rfl

/-! ### onCmi -/

@[simp] theorem State.onCmi_variant (f : Cmi → Cmi) : (s.onCmi f).variant = s.variant := rfl
@[simp] theorem State.onCmi_pins (f : Cmi → Cmi) : (s.onCmi f).pins = s.pins := rfl
@[simp] theorem State.onCmi_params (f : Cmi → Cmi) : (s.onCmi f).params = s.params := rfl
@[simp] theorem State.onCmi_hlr (f : Cmi → Cmi) : (s.onCmi f).hlr = s.hlr := rfl
@[simp] theorem State.onCmi_ant (f : Cmi → Cmi) : (s.onCmi f).ant = s.ant := rfl
@[simp] theorem State.onCmi_emq (f : Cmi → Cmi) : (s.onCmi f).emq = s.emq := rfl
@[simp] theorem State.onCmi_eca (f : Cmi → Cmi) : (s.onCmi f).eca = s.eca := rfl
@[simp] theorem State.onCmi_ptf (f : Cmi → Cmi) : (s.onCmi f).ptf = s.ptf := rfl
@[simp] theorem State.onCmi_tbs (f : Cmi → Cmi) : (s.onCmi f).tbs = s.tbs := rfl
@[simp] theorem State.onCmi_exu (f : Cmi → Cmi) : (s.onCmi f).exu = s.exu := rfl
@[simp] theorem State.onCmi_tru (f : Cmi → Cmi) : (s.onCmi f).tru = s.tru := rfl
@[simp] theorem State.onCmi_rlf (f : Cmi → Cmi) : (s.onCmi f).rlf = s.rlf := rfl
@[simp] theorem State.onCmi_flags (f : Cmi → Cmi) : (s.onCmi f).flags = s.flags := rfl
@[simp] theorem State.onCmi_cmi (f : Cmi → Cmi) : (s.onCmi f).cmi = f s.cmi := rfl
@[simp] theorem State.onCmi_freeCount (f : Cmi → Cmi) : (s.onCmi f).freeCount = s.freeCount := rfl
@[simp] theorem State.onCmi_pending (f : Cmi → Cmi) : (s.onCmi f).pending = s.pending := rfl

/-! ### setFlags -/

@[simp] theorem State.setFlags_variant (fl : EventSet) : (s.setFlags fl).variant = s.variant := rfl
@[simp] theorem State.setFlags_pins (fl : EventSet) : (s.setFlags fl).pins = s.pins := rfl
@[simp] theorem State.setFlags_params (fl : EventSet) : (s.setFlags fl).params = s.params := rfl
@[simp] theorem State.setFlags_hlr (fl : EventSet) : (s.setFlags fl).hlr = s.hlr := rfl
@[simp] theorem State.setFlags_ant (fl : EventSet) : (s.setFlags fl).ant = s.ant := rfl
@[simp] theorem State.setFlags_emq (fl : EventSet) : (s.setFlags fl).emq = s.emq := rfl
@[simp] theorem State.setFlags_eca (fl : EventSet) : (s.setFlags fl).eca = s.eca := rfl
@[simp] theorem State.setFlags_ptf (fl : EventSet) : (s.setFlags fl).ptf = s.ptf := rfl
@[simp] theorem State.setFlags_tbs (fl : EventSet) : (s.setFlags fl).tbs = s.tbs := rfl
@[simp] theorem State.setFlags_exu (fl : EventSet) : (s.setFlags fl).exu = s.exu := rfl
@[simp] theorem State.setFlags_tru (fl : EventSet) : (s.setFlags fl).tru = s.tru := rfl
@[simp] theorem State.setFlags_rlf (fl : EventSet) : (s.setFlags fl).rlf = s.rlf := rfl
@[simp] theorem State.setFlags_flags (fl : EventSet) : (s.setFlags fl).flags = fl := rfl
@[simp] theorem State.setFlags_cmi (fl : EventSet) : (s.setFlags fl).cmi = s.cmi := rfl
@[simp] theorem State.setFlags_freeCount (fl : EventSet) : (s.setFlags fl).freeCount = s.freeCount := rfl
@[simp] theorem State.setFlags_pending (fl : EventSet) : (s.setFlags fl).pending = s.pending := rfl

/-! ### drawFree -/

@[simp] theorem State.drawFree_variant : s.drawFree.variant = s.variant := rfl
@[simp] theorem State.drawFree_pins : s.drawFree.pins = s.pins := rfl
@[simp] theorem State.drawFree_params : s.drawFree.params = s.params := rfl
@[simp] theorem State.drawFree_hlr : s.drawFree.hlr = s.hlr := rfl
@[simp] theorem State.drawFree_ant : s.drawFree.ant = s.ant := rfl
@[simp] theorem State.drawFree_emq : s.drawFree.emq = s.emq := rfl
@[simp] theorem State.drawFree_eca : s.drawFree.eca = s.eca := rfl
@[simp] theorem State.drawFree_ptf : s.drawFree.ptf = s.ptf := rfl
@[simp] theorem State.drawFree_tbs : s.drawFree.tbs = s.tbs := rfl
@[simp] theorem State.drawFree_exu : s.drawFree.exu = s.exu := rfl
@[simp] theorem State.drawFree_tru : s.drawFree.tru = s.tru := rfl
@[simp] theorem State.drawFree_rlf : s.drawFree.rlf = s.rlf := rfl
@[simp] theorem State.drawFree_flags : s.drawFree.flags = s.flags := rfl
@[simp] theorem State.drawFree_cmi : s.drawFree.cmi = s.cmi := rfl
@[simp] theorem State.drawFree_freeCount : s.drawFree.freeCount = s.freeCount + 1 := rfl
@[simp] theorem State.drawFree_pending : s.drawFree.pending = s.pending := rfl

/-! ### raise -/

@[simp] theorem State.raise_variant (e : Event) : (s.raise e).variant = s.variant := rfl
@[simp] theorem State.raise_pins (e : Event) : (s.raise e).pins = s.pins := rfl
@[simp] theorem State.raise_params (e : Event) : (s.raise e).params = s.params := rfl
@[simp] theorem State.raise_hlr (e : Event) : (s.raise e).hlr = s.hlr := rfl
@[simp] theorem State.raise_ant (e : Event) : (s.raise e).ant = s.ant := rfl
@[simp] theorem State.raise_emq (e : Event) : (s.raise e).emq = s.emq := rfl
@[simp] theorem State.raise_eca (e : Event) : (s.raise e).eca = s.eca := rfl
@[simp] theorem State.raise_ptf (e : Event) : (s.raise e).ptf = s.ptf := rfl
@[simp] theorem State.raise_tbs (e : Event) : (s.raise e).tbs = s.tbs := rfl
@[simp] theorem State.raise_exu (e : Event) : (s.raise e).exu = s.exu := rfl
@[simp] theorem State.raise_tru (e : Event) : (s.raise e).tru = s.tru := rfl
@[simp] theorem State.raise_rlf (e : Event) : (s.raise e).rlf = s.rlf := rfl
@[simp] theorem State.raise_flags (e : Event) : (s.raise e).flags = s.flags ||| e.bit := rfl
@[simp] theorem State.raise_cmi (e : Event) : (s.raise e).cmi = s.cmi := rfl
@[simp] theorem State.raise_freeCount (e : Event) : (s.raise e).freeCount = s.freeCount := rfl
@[simp] theorem State.raise_pending (e : Event) : (s.raise e).pending = s.pending := rfl

/-! ### rejectFrame -/

@[simp] theorem State.rejectFrame_variant : s.rejectFrame.variant = s.variant := rfl
@[simp] theorem State.rejectFrame_pins : s.rejectFrame.pins = s.pins := rfl
@[simp] theorem State.rejectFrame_params : s.rejectFrame.params = s.params := rfl
@[simp] theorem State.rejectFrame_hlr : s.rejectFrame.hlr = { s.hlr with rejected := satSucc 65535 s.hlr.rejected } := rfl
@[simp] theorem State.rejectFrame_ant : s.rejectFrame.ant = s.ant := rfl
@[simp] theorem State.rejectFrame_emq : s.rejectFrame.emq = s.emq := rfl
@[simp] theorem State.rejectFrame_eca : s.rejectFrame.eca = s.eca := rfl
@[simp] theorem State.rejectFrame_ptf : s.rejectFrame.ptf = s.ptf := rfl
@[simp] theorem State.rejectFrame_tbs : s.rejectFrame.tbs = s.tbs := rfl
@[simp] theorem State.rejectFrame_exu : s.rejectFrame.exu = s.exu := rfl
@[simp] theorem State.rejectFrame_tru : s.rejectFrame.tru = s.tru := rfl
@[simp] theorem State.rejectFrame_rlf : s.rejectFrame.rlf = s.rlf := rfl
@[simp] theorem State.rejectFrame_flags : s.rejectFrame.flags = s.flags ||| Event.frameReject.bit := rfl
@[simp] theorem State.rejectFrame_cmi : s.rejectFrame.cmi = s.cmi := rfl
@[simp] theorem State.rejectFrame_freeCount : s.rejectFrame.freeCount = s.freeCount := rfl
@[simp] theorem State.rejectFrame_pending : s.rejectFrame.pending = s.pending := rfl

/-! ### Equality -/

/-- Two states are equal when every block is. -/
theorem State.ext_blocks {s t : State} (h0 : s.variant = t.variant) (h1 : s.pins = t.pins) (h2 : s.params = t.params)
    (h3 : s.hlr = t.hlr) (h4 : s.ant = t.ant) (h5 : s.emq = t.emq) (h6 : s.eca = t.eca) (h7 : s.ptf = t.ptf) (h8 : s.tbs = t.tbs)
    (h9 : s.exu = t.exu) (h10 : s.tru = t.tru) (h11 : s.rlf = t.rlf) (h12 : s.flags = t.flags) (h13 : s.cmi = t.cmi)
    (h14 : s.freeCount = t.freeCount) (h15 : s.pending = t.pending) : s = t := by
  cases s; cases t; simp_all

end Sys2Proof.Machine
end

