-- ==== Sys2Proof/Laws/Tables.lean ====
section
/-! SUPPORT. What each operation of the Table Store can change, and its equations. -/

namespace Sys2Proof.Machine

variable (s : State)

/-- A notice to the Exposure Unit changes that unit alone (R130). -/
@[simp] theorem State.noticeSeek_frame :
    (s.noticeSeek).variant = s.variant ∧ (s.noticeSeek).pins = s.pins ∧ (s.noticeSeek).params = s.params ∧
    (s.noticeSeek).hlr = s.hlr ∧ (s.noticeSeek).ant = s.ant ∧ (s.noticeSeek).emq = s.emq ∧
    (s.noticeSeek).eca = s.eca ∧ (s.noticeSeek).ptf = s.ptf ∧ (s.noticeSeek).tbs = s.tbs ∧
    (s.noticeSeek).tru = s.tru ∧ (s.noticeSeek).rlf = s.rlf ∧ (s.noticeSeek).flags = s.flags ∧
    (s.noticeSeek).cmi = s.cmi ∧ (s.noticeSeek).freeCount = s.freeCount ∧ (s.noticeSeek).pending = s.pending := by
  unfold State.noticeSeek; split <;> simp

/-- A generation switch changes the Table Store, a read's SPLIT, the flags and the seek pending (R114). -/
@[simp] theorem State.generationSwitch_frame :
    (s.generationSwitch).variant = s.variant ∧ (s.generationSwitch).pins = s.pins ∧
    (s.generationSwitch).params = s.params ∧ (s.generationSwitch).hlr = s.hlr ∧ (s.generationSwitch).ant = s.ant ∧
    (s.generationSwitch).emq = s.emq ∧ (s.generationSwitch).eca = s.eca ∧ (s.generationSwitch).ptf = s.ptf ∧
    (s.generationSwitch).tru = s.tru ∧ (s.generationSwitch).rlf = s.rlf ∧
    (s.generationSwitch).freeCount = s.freeCount ∧ (s.generationSwitch).pending = s.pending := by
  simp [State.generationSwitch]

/-- A boundary notice changes what a generation switch does (R112). -/
@[simp] theorem State.boundaryNotice_frame :
    (s.boundaryNotice).variant = s.variant ∧ (s.boundaryNotice).pins = s.pins ∧
    (s.boundaryNotice).params = s.params ∧ (s.boundaryNotice).hlr = s.hlr ∧ (s.boundaryNotice).ant = s.ant ∧
    (s.boundaryNotice).emq = s.emq ∧ (s.boundaryNotice).eca = s.eca ∧ (s.boundaryNotice).ptf = s.ptf ∧
    (s.boundaryNotice).tru = s.tru ∧ (s.boundaryNotice).rlf = s.rlf ∧ (s.boundaryNotice).freeCount = s.freeCount ∧
    (s.boundaryNotice).pending = s.pending := by
  unfold State.boundaryNotice; split <;> simp

/-- A grant to the command request changes the read and the port's count (R119). -/
@[simp] theorem State.grantCommand_frame :
    (s.grantCommand).variant = s.variant ∧ (s.grantCommand).pins = s.pins ∧ (s.grantCommand).params = s.params ∧
    (s.grantCommand).hlr = s.hlr ∧ (s.grantCommand).ant = s.ant ∧ (s.grantCommand).emq = s.emq ∧
    (s.grantCommand).eca = s.eca ∧ (s.grantCommand).ptf = s.ptf ∧ (s.grantCommand).exu = s.exu ∧
    (s.grantCommand).tru = s.tru ∧ (s.grantCommand).rlf = s.rlf ∧ (s.grantCommand).flags = s.flags ∧
    (s.grantCommand).freeCount = s.freeCount ∧ (s.grantCommand).pending = s.pending := by
  unfold State.grantCommand; split <;> simp

/-- Grants in a row change what one grant changes. -/
@[simp] theorem grantCommands_frame (n : Nat) (s : State) :
    (grantCommands n s).variant = s.variant ∧ (grantCommands n s).pins = s.pins ∧
    (grantCommands n s).params = s.params ∧ (grantCommands n s).hlr = s.hlr ∧ (grantCommands n s).ant = s.ant ∧
    (grantCommands n s).emq = s.emq ∧ (grantCommands n s).eca = s.eca ∧ (grantCommands n s).ptf = s.ptf ∧
    (grantCommands n s).exu = s.exu ∧ (grantCommands n s).tru = s.tru ∧ (grantCommands n s).rlf = s.rlf ∧
    (grantCommands n s).flags = s.flags ∧ (grantCommands n s).freeCount = s.freeCount ∧
    (grantCommands n s).pending = s.pending := by
  induction n generalizing s with
  | zero => simp [grantCommands]
  | succ n ih =>
    unfold grantCommands
    have h := ih s.grantCommand
    simp only [State.grantCommand_frame] at h
    exact h

/-- R118: a gap does nothing with no fetch waiting; otherwise it draws a free number of fetches. -/
theorem State.portGap_cases :
    (s.commandWaits = false ∧ s.portGap = s) ∨
      (s.commandWaits = true ∧ ∃ n, s.portGap = grantCommands n s.drawFree) := by
  unfold State.portGap
  cases s.commandWaits
  · simp
  · simp only [if_true]; exact .inr ⟨trivial, _, rfl⟩

/-- A gap changes at most a read in execution, the port's count and the count of free values (R118). -/
@[simp] theorem State.portGap_frame :
    (s.portGap).variant = s.variant ∧ (s.portGap).pins = s.pins ∧ (s.portGap).params = s.params ∧
    (s.portGap).hlr = s.hlr ∧ (s.portGap).ant = s.ant ∧ (s.portGap).emq = s.emq ∧ (s.portGap).eca = s.eca ∧
    (s.portGap).ptf = s.ptf ∧ (s.portGap).exu = s.exu ∧ (s.portGap).tru = s.tru ∧ (s.portGap).rlf = s.rlf ∧
    (s.portGap).flags = s.flags ∧ (s.portGap).pending = s.pending := by
  rcases s.portGap_cases with ⟨_, h⟩ | ⟨_, n, h⟩ <;> simp [h]

/-- The notice of entry to STOPPED changes what a gap and a generation switch do (R113). -/
@[simp] theorem State.stoppedSwitch_frame :
    (s.stoppedSwitch).variant = s.variant ∧ (s.stoppedSwitch).pins = s.pins ∧ (s.stoppedSwitch).params = s.params ∧
    (s.stoppedSwitch).hlr = s.hlr ∧ (s.stoppedSwitch).ant = s.ant ∧ (s.stoppedSwitch).emq = s.emq ∧
    (s.stoppedSwitch).eca = s.eca ∧ (s.stoppedSwitch).ptf = s.ptf ∧ (s.stoppedSwitch).tru = s.tru ∧
    (s.stoppedSwitch).rlf = s.rlf ∧ (s.stoppedSwitch).pending = s.pending := by
  unfold State.stoppedSwitch; split <;> simp

/-- R119: the arbitration of a pipeline request: one grant counted, or, after 64, a fetch first. -/
theorem State.arbitrate_cases :
    (s.tbs.grants < Config.grantLimit ∧ s.commandWaits = true ∧
        s.arbitrate = s.onTbs fun t => { t with grants := t.grants + 1 }) ∨
      (s.tbs.grants < Config.grantLimit ∧ s.commandWaits = false ∧ s.arbitrate = s) ∨
      (Config.grantLimit ≤ s.tbs.grants ∧ s.grantCommand.commandWaits = true ∧
        s.arbitrate = s.grantCommand.onTbs fun t => { t with grants := t.grants + 1 }) ∨
      (Config.grantLimit ≤ s.tbs.grants ∧ s.grantCommand.commandWaits = false ∧ s.arbitrate = s.grantCommand) := by
  unfold State.arbitrate
  by_cases hg : Config.grantLimit ≤ s.tbs.grants
  · cases hg' : s.grantCommand.commandWaits <;> simp [hg, hg']
  · cases hw : s.commandWaits <;> simp [hg, hw] <;> omega

/-- R119: the arbitration changes at most a read in execution and the port's count. -/
@[simp] theorem State.arbitrate_frame :
    (s.arbitrate).variant = s.variant ∧ (s.arbitrate).pins = s.pins ∧ (s.arbitrate).params = s.params ∧
    (s.arbitrate).hlr = s.hlr ∧ (s.arbitrate).ant = s.ant ∧ (s.arbitrate).emq = s.emq ∧
    (s.arbitrate).eca = s.eca ∧ (s.arbitrate).ptf = s.ptf ∧ (s.arbitrate).exu = s.exu ∧
    (s.arbitrate).tru = s.tru ∧ (s.arbitrate).rlf = s.rlf ∧ (s.arbitrate).flags = s.flags ∧
    (s.arbitrate).freeCount = s.freeCount ∧ (s.arbitrate).pending = s.pending := by
  rcases s.arbitrate_cases with ⟨_, _, h⟩ | ⟨_, _, h⟩ | ⟨_, _, h⟩ | ⟨_, _, h⟩ <;> simp [h]

/-- R118, R119: what a pipeline request does: nothing with no fetch waiting; the gap before it, and the arbitration where a
fetch still waits. -/
theorem State.pipelineRequest_cases :
    (s.commandWaits = false ∧ s.pipelineRequest = s) ∨
      (s.commandWaits = true ∧ s.portGap.commandWaits = true ∧ s.pipelineRequest = s.portGap.arbitrate) ∨
      (s.commandWaits = true ∧ s.portGap.commandWaits = false ∧ s.pipelineRequest = s.portGap) := by
  unfold State.pipelineRequest
  cases hw : s.commandWaits
  · have h : s.portGap = s := by simp [State.portGap, hw]
    simp [h, hw]
  · cases hg : s.portGap.commandWaits <;> simp

/-- A pipeline request changes at most a read in execution and the port's count (R119). -/
@[simp] theorem State.pipelineRequest_frame :
    (s.pipelineRequest).variant = s.variant ∧ (s.pipelineRequest).pins = s.pins ∧
    (s.pipelineRequest).params = s.params ∧ (s.pipelineRequest).hlr = s.hlr ∧ (s.pipelineRequest).ant = s.ant ∧
    (s.pipelineRequest).emq = s.emq ∧ (s.pipelineRequest).eca = s.eca ∧ (s.pipelineRequest).ptf = s.ptf ∧
    (s.pipelineRequest).exu = s.exu ∧ (s.pipelineRequest).tru = s.tru ∧ (s.pipelineRequest).rlf = s.rlf ∧
    (s.pipelineRequest).flags = s.flags ∧
    (s.pipelineRequest).pending = s.pending := by
  rcases s.pipelineRequest_cases with ⟨_, h⟩ | ⟨_, _, h⟩ | ⟨_, _, h⟩ <;> simp [h]

/-- Pipeline requests change at most a read in execution and the port's count (R119). -/
@[simp] theorem State.pipelineRequests_frame (n : Nat) (s : State) :
    (State.pipelineRequests n s).variant = s.variant ∧ (State.pipelineRequests n s).pins = s.pins ∧
    (State.pipelineRequests n s).params = s.params ∧ (State.pipelineRequests n s).hlr = s.hlr ∧
    (State.pipelineRequests n s).ant = s.ant ∧ (State.pipelineRequests n s).emq = s.emq ∧
    (State.pipelineRequests n s).eca = s.eca ∧ (State.pipelineRequests n s).ptf = s.ptf ∧
    (State.pipelineRequests n s).exu = s.exu ∧ (State.pipelineRequests n s).tru = s.tru ∧
    (State.pipelineRequests n s).rlf = s.rlf ∧ (State.pipelineRequests n s).flags = s.flags ∧
    (State.pipelineRequests n s).pending = s.pending := by
  induction n generalizing s with
  | zero => simp [State.pipelineRequests]
  | succ n ih =>
    unfold State.pipelineRequests
    split
    · have h := ih s.pipelineRequest
      simp only [State.pipelineRequest_frame] at h
      exact h
    · simp

/-! ### The tables under a port request -/

/-- What a port request leaves of the Table Store: everything but its count (R118). -/
def SameTables (t u : Tbs) : Prop := u = { t with grants := u.grants }

theorem SameTables.refl (t : Tbs) : SameTables t t := rfl

theorem SameTables.trans {t u v : Tbs} (h : SameTables t u) (k : SameTables u v) : SameTables t v := by
  unfold SameTables at *
  rw [h] at k
  exact k

theorem State.grantCommand_tables : SameTables s.tbs s.grantCommand.tbs := by
  unfold State.grantCommand; split <;> simp [SameTables]

theorem grantCommands_tables (n : Nat) (s : State) : SameTables s.tbs (grantCommands n s).tbs := by
  induction n generalizing s with
  | zero => exact SameTables.refl _
  | succ n ih => exact (s.grantCommand_tables).trans (ih _)

/-- A gap keeps the tables. -/
theorem State.portGap_tables : SameTables s.tbs s.portGap.tbs := by
  rcases s.portGap_cases with ⟨_, h⟩ | ⟨_, n, h⟩ <;> rw [h]
  · exact SameTables.refl _
  · exact grantCommands_tables n s.drawFree

/-- The arbitration keeps the tables. -/
theorem State.arbitrate_tables : SameTables s.tbs s.arbitrate.tbs := by
  rcases s.arbitrate_cases with ⟨_, _, h⟩ | ⟨_, _, h⟩ | ⟨_, _, h⟩ | ⟨_, _, h⟩ <;> rw [h]
  · simp [SameTables]
  · exact SameTables.refl _
  · exact (s.grantCommand_tables).trans (by simp [SameTables])
  · exact s.grantCommand_tables

theorem State.pipelineRequest_tables : SameTables s.tbs s.pipelineRequest.tbs := by
  rcases s.pipelineRequest_cases with ⟨_, h⟩ | ⟨_, _, h⟩ | ⟨_, _, h⟩ <;> rw [h]
  · exact SameTables.refl _
  · exact (s.portGap_tables).trans s.portGap.arbitrate_tables
  · exact s.portGap_tables

theorem State.pipelineRequests_tables (n : Nat) (s : State) : SameTables s.tbs (State.pipelineRequests n s).tbs := by
  induction n generalizing s with
  | zero => exact SameTables.refl _
  | succ n ih =>
    unfold State.pipelineRequests
    split
    · exact (s.pipelineRequest_tables).trans (ih _)
    · exact SameTables.refl _

/-- The banks, statuses, generation and protection are the same under a port request. -/
theorem SameTables.fields {t u : Tbs} (h : SameTables t u) :
    u.staged = t.staged ∧ u.bankActive = t.bankActive ∧ u.retiring = t.retiring ∧ u.activeStatus = t.activeStatus ∧
      u.stagedStatus = t.stagedStatus ∧ u.generation = t.generation ∧ u.protection = t.protection := by
  rw [h]; simp

theorem SameTables.bankOf {t u : Tbs} (h : SameTables t u) (g : BitVec 8) : u.bankOf g = t.bankOf g := by
  rw [h]; rfl

/-- A gap keeps every bank and status. -/
@[simp] theorem State.portGap_banks :
    s.portGap.tbs.staged = s.tbs.staged ∧ s.portGap.tbs.bankActive = s.tbs.bankActive ∧
      s.portGap.tbs.retiring = s.tbs.retiring ∧ s.portGap.tbs.activeStatus = s.tbs.activeStatus ∧
      s.portGap.tbs.stagedStatus = s.tbs.stagedStatus ∧ s.portGap.tbs.generation = s.tbs.generation ∧
      s.portGap.tbs.protection = s.tbs.protection := (s.portGap_tables).fields

@[simp] theorem State.pipelineRequest_banks :
    s.pipelineRequest.tbs.staged = s.tbs.staged ∧ s.pipelineRequest.tbs.bankActive = s.tbs.bankActive ∧
      s.pipelineRequest.tbs.retiring = s.tbs.retiring ∧ s.pipelineRequest.tbs.activeStatus = s.tbs.activeStatus ∧
      s.pipelineRequest.tbs.stagedStatus = s.tbs.stagedStatus ∧ s.pipelineRequest.tbs.generation = s.tbs.generation ∧
      s.pipelineRequest.tbs.protection = s.tbs.protection := (s.pipelineRequest_tables).fields

@[simp] theorem State.pipelineRequests_banks (n : Nat) :
    (State.pipelineRequests n s).tbs.staged = s.tbs.staged ∧
      (State.pipelineRequests n s).tbs.bankActive = s.tbs.bankActive ∧
      (State.pipelineRequests n s).tbs.retiring = s.tbs.retiring ∧
      (State.pipelineRequests n s).tbs.activeStatus = s.tbs.activeStatus ∧
      (State.pipelineRequests n s).tbs.stagedStatus = s.tbs.stagedStatus ∧
      (State.pipelineRequests n s).tbs.generation = s.tbs.generation ∧
      (State.pipelineRequests n s).tbs.protection = s.tbs.protection := (State.pipelineRequests_tables n s).fields

/-- R118: with no fetch waiting, a gap changes nothing. -/
theorem State.portGap_of_idle (h : s.commandWaits = false) : s.portGap = s := by
  simp [State.portGap, h]

/-- R118, R119: with no fetch waiting, a pipeline request changes nothing. -/
theorem State.pipelineRequest_of_idle (h : s.commandWaits = false) : s.pipelineRequest = s := by
  simp [State.pipelineRequest, State.portGap_of_idle, h]

theorem State.pipelineRequests_of_idle (n : Nat) (h : s.commandWaits = false) : State.pipelineRequests n s = s := by
  cases n <;> simp [State.pipelineRequests, h]

/-- With no read in execution, none waits at the port. -/
theorem State.commandWaits_of_none (h : s.cmi.reading = none) : s.commandWaits = false := by
  simp [State.commandWaits, h]

/-- A port request neither begins nor ends a read, and leaves the command queue. -/
@[simp] theorem State.grantCommand_cmi :
    s.grantCommand.cmi.queue = s.cmi.queue ∧ s.grantCommand.cmi.reading.isSome = s.cmi.reading.isSome := by
  unfold State.grantCommand; split <;> simp

/-- Grants keep the commands that wait. -/
@[simp] theorem grantCommands_cmi (n : Nat) (s : State) :
    (grantCommands n s).cmi.queue = s.cmi.queue ∧
      (grantCommands n s).cmi.reading.isSome = s.cmi.reading.isSome := by
  induction n generalizing s with
  | zero => simp [grantCommands]
  | succ n ih =>
    unfold grantCommands
    have h := ih s.grantCommand
    simp only [State.grantCommand_cmi] at h
    exact h

/-- A gap keeps the commands that wait. -/
@[simp] theorem State.portGap_cmi :
    s.portGap.cmi.queue = s.cmi.queue ∧ s.portGap.cmi.reading.isSome = s.cmi.reading.isSome := by
  rcases s.portGap_cases with ⟨_, h⟩ | ⟨_, n, h⟩ <;> simp [h]

/-- The arbitration keeps the commands that wait. -/
@[simp] theorem State.arbitrate_cmi :
    s.arbitrate.cmi.queue = s.cmi.queue ∧ s.arbitrate.cmi.reading.isSome = s.cmi.reading.isSome := by
  rcases s.arbitrate_cases with ⟨_, _, h⟩ | ⟨_, _, h⟩ | ⟨_, _, h⟩ | ⟨_, _, h⟩ <;> simp [h]

@[simp] theorem State.pipelineRequest_cmi :
    s.pipelineRequest.cmi.queue = s.cmi.queue ∧ s.pipelineRequest.cmi.reading.isSome = s.cmi.reading.isSome := by
  rcases s.pipelineRequest_cases with ⟨_, h⟩ | ⟨_, _, h⟩ | ⟨_, _, h⟩ <;> simp [h]

@[simp] theorem State.pipelineRequests_cmi (n : Nat) (s : State) :
    (State.pipelineRequests n s).cmi.queue = s.cmi.queue ∧
      (State.pipelineRequests n s).cmi.reading.isSome = s.cmi.reading.isSome := by
  induction n generalizing s with
  | zero => simp [State.pipelineRequests]
  | succ n ih =>
    unfold State.pipelineRequests
    split
    · have h := ih s.pipelineRequest
      simp only [State.pipelineRequest_cmi] at h
      exact h
    · simp

/-! ### Generation switches -/

/-- R114, R130: the Exposure Unit under a notice: at most its seek pending changes. -/
theorem State.noticeSeek_exu :
    s.noticeSeek.exu = if s.variant = .p4c then { s.exu with seek := true } else s.exu := by
  unfold State.noticeSeek; split <;> simp_all

theorem State.generationSwitch_tbs : s.generationSwitch.tbs = s.tbs.switch := by simp [State.generationSwitch]

theorem State.generationSwitch_flags : s.generationSwitch.flags = s.flags ||| Event.commitDone.bit := by
  simp [State.generationSwitch]

theorem State.generationSwitch_exu :
    s.generationSwitch.exu = if s.variant = .p4c then { s.exu with seek := true } else s.exu := by
  unfold State.generationSwitch
  rw [State.noticeSeek_exu]
  rfl

theorem State.generationSwitch_cmi :
    s.generationSwitch.cmi = { s.cmi with reading := s.cmi.reading.map Reading.sawSwitch } := by
  simp [State.generationSwitch]

/-- R112: a boundary notice switches under its two conditions, and otherwise changes nothing. -/
theorem State.boundaryNotice_cases :
    (s.tbs.anyPending = true ∧ (∀ p ∈ s.emq.queue, p.gen = s.tbs.generation) ∧ s.boundaryNotice = s.generationSwitch) ∨
      ((s.tbs.anyPending = false ∨ ∃ p ∈ s.emq.queue, p.gen ≠ s.tbs.generation) ∧ s.boundaryNotice = s) := by
  unfold State.boundaryNotice
  by_cases hp : s.tbs.anyPending = true <;> by_cases hq : ∀ p ∈ s.emq.queue, p.gen = s.tbs.generation
  · left
    refine ⟨hp, hq, ?_⟩
    rw [if_pos]
    simp only [hp, Bool.true_and, List.all_eq_true, decide_eq_true_eq]
    exact hq
  · right
    push Not at hq
    obtain ⟨p, hp1, hp2⟩ := hq
    refine ⟨Or.inr ⟨p, hp1, hp2⟩, ?_⟩
    rw [if_neg]
    simp only [Bool.and_eq_true, List.all_eq_true, decide_eq_true_eq, not_and]
    intro _ hall; exact absurd (hall p hp1) hp2
  · right; simp [hp]
  · right; simp [hp]

/-- R113: an entry to STOPPED switches when a table is PENDING, after a gap, and otherwise changes nothing. -/
theorem State.stoppedSwitch_cases :
    (s.tbs.anyPending = true ∧ s.stoppedSwitch = s.portGap.generationSwitch) ∨
      (s.tbs.anyPending = false ∧ s.stoppedSwitch = s) := by
  unfold State.stoppedSwitch
  cases h : s.tbs.anyPending <;> simp

/-! ### Tables and statuses -/

@[simp] theorem PerTable.get_tabulate {α : Type} (f : TableId → α) (t : TableId) : (PerTable.tabulate f).get t = f t := by
  cases t <;> rfl

theorem PerTable.get_set {α : Type} (p : PerTable α) (t u : TableId) (a : α) :
    (p.set t a).get u = if u = t then a else p.get u := by
  cases t <;> cases u <;> simp [PerTable.set, PerTable.get]

@[simp] theorem PerTable.get_const {α : Type} (a : α) (t : TableId) : (PerTable.const a).get t = a := by
  cases t <;> rfl

@[simp] theorem Bank.table_setTable_self (b : Bank) (t : TableId) (c : List (EntryOf t)) : (b.setTable t c).table t = c := by
  cases t <;> rfl

theorem Bank.table_setTable_ne (b : Bank) {t u : TableId} (h : u ≠ t) (c : List (EntryOf t)) :
    (b.setTable t c).table u = b.table u := by
  cases t <;> cases u <;> first | rfl | exact absurd rfl h

/-- R114: the content of each table in ACTIVE after a switch. -/
@[simp] theorem Tbs.switch_table (t : Tbs) (id : TableId) : t.switch.bankActive.table id = t.switchedTable id := by
  cases id <;> rfl

/-- R114: the other items after a switch. -/
@[simp] theorem Tbs.switch_fields (t : Tbs) :
    t.switch.retiring = t.bankActive ∧ t.switch.staged = t.staged ∧ t.switch.generation = t.generation + 1 ∧
      t.switch.protection = t.protection ∧ t.switch.grants = t.grants := by simp [Tbs.switch]

theorem Tbs.switch_stagedStatus (t : Tbs) (id : TableId) :
    t.switch.stagedStatus.get id = if t.isPending id = true then .clean else t.stagedStatus.get id := by
  simp [Tbs.switch]

theorem Tbs.switch_activeStatus (t : Tbs) (id : TableId) :
    t.switch.activeStatus.get id = if t.isPending id = true then .valid else t.activeStatus.get id := by
  simp [Tbs.switch]

/-- With no read in execution a switch leaves the interpreter alone (R114). -/
theorem State.generationSwitch_cmi_of_none (h : s.cmi.reading = none) : s.generationSwitch.cmi = s.cmi := by
  rw [State.generationSwitch_cmi]
  cases hc : s.cmi; simp_all

end Sys2Proof.Machine
end

