-- ==== Sys2Proof/Laws/Framer.lean ====
section
/-! SUPPORT. What each operation of the Record Link Framer can change, and its equations. -/

namespace Sys2Proof.Machine

variable (s : State)

/-- Admission changes the framer alone. -/
@[simp] theorem State.admitFrame_frame (p : Payload) :
    (s.admitFrame p).variant = s.variant ∧ (s.admitFrame p).pins = s.pins ∧ (s.admitFrame p).params = s.params ∧
    (s.admitFrame p).hlr = s.hlr ∧ (s.admitFrame p).ant = s.ant ∧ (s.admitFrame p).emq = s.emq ∧
    (s.admitFrame p).eca = s.eca ∧ (s.admitFrame p).ptf = s.ptf ∧ (s.admitFrame p).tbs = s.tbs ∧
    (s.admitFrame p).exu = s.exu ∧ (s.admitFrame p).tru = s.tru ∧ (s.admitFrame p).flags = s.flags ∧
    (s.admitFrame p).cmi = s.cmi ∧ (s.admitFrame p).freeCount = s.freeCount ∧ (s.admitFrame p).pending = s.pending := by
  simp [State.admitFrame]

/-- A refusal changes the framer and the flags (R175). -/
@[simp] theorem State.refuseFrame_frame (p : Payload) :
    (s.refuseFrame p).variant = s.variant ∧ (s.refuseFrame p).pins = s.pins ∧ (s.refuseFrame p).params = s.params ∧
    (s.refuseFrame p).hlr = s.hlr ∧ (s.refuseFrame p).ant = s.ant ∧ (s.refuseFrame p).emq = s.emq ∧
    (s.refuseFrame p).eca = s.eca ∧ (s.refuseFrame p).ptf = s.ptf ∧ (s.refuseFrame p).tbs = s.tbs ∧
    (s.refuseFrame p).exu = s.exu ∧ (s.refuseFrame p).tru = s.tru ∧ (s.refuseFrame p).cmi = s.cmi ∧
    (s.refuseFrame p).freeCount = s.freeCount ∧ (s.refuseFrame p).pending = s.pending := by
  simp [State.refuseFrame]

/-- An offer changes the framer and the flags. -/
@[simp] theorem State.offer_frame (p : Payload) :
    (s.offer p).variant = s.variant ∧ (s.offer p).pins = s.pins ∧ (s.offer p).params = s.params ∧
    (s.offer p).hlr = s.hlr ∧ (s.offer p).ant = s.ant ∧ (s.offer p).emq = s.emq ∧ (s.offer p).eca = s.eca ∧
    (s.offer p).ptf = s.ptf ∧ (s.offer p).tbs = s.tbs ∧ (s.offer p).exu = s.exu ∧ (s.offer p).tru = s.tru ∧
    (s.offer p).cmi = s.cmi ∧ (s.offer p).freeCount = s.freeCount ∧ (s.offer p).pending = s.pending := by
  unfold State.offer; split <;> simp

/-- An answer's offer changes the framer alone: an RSP is never refused (R174). -/
@[simp] theorem State.offerAnswer_frame (a : Answer) :
    (s.offerAnswer a).variant = s.variant ∧ (s.offerAnswer a).pins = s.pins ∧ (s.offerAnswer a).params = s.params ∧
    (s.offerAnswer a).hlr = s.hlr ∧ (s.offerAnswer a).ant = s.ant ∧ (s.offerAnswer a).emq = s.emq ∧
    (s.offerAnswer a).eca = s.eca ∧ (s.offerAnswer a).ptf = s.ptf ∧ (s.offerAnswer a).tbs = s.tbs ∧
    (s.offerAnswer a).exu = s.exu ∧ (s.offerAnswer a).tru = s.tru ∧ (s.offerAnswer a).flags = s.flags ∧
    (s.offerAnswer a).cmi = s.cmi ∧ (s.offerAnswer a).freeCount = s.freeCount ∧ (s.offerAnswer a).pending = s.pending := by
  unfold State.offerAnswer; split <;> simp

/-- Closing the batch changes the framer and the flags. -/
@[simp] theorem State.closeBatch_frame :
    (s.closeBatch).variant = s.variant ∧ (s.closeBatch).pins = s.pins ∧ (s.closeBatch).params = s.params ∧
    (s.closeBatch).hlr = s.hlr ∧ (s.closeBatch).ant = s.ant ∧ (s.closeBatch).emq = s.emq ∧
    (s.closeBatch).eca = s.eca ∧ (s.closeBatch).ptf = s.ptf ∧ (s.closeBatch).tbs = s.tbs ∧
    (s.closeBatch).exu = s.exu ∧ (s.closeBatch).tru = s.tru ∧ (s.closeBatch).cmi = s.cmi ∧
    (s.closeBatch).freeCount = s.freeCount ∧ (s.closeBatch).pending = s.pending := by
  unfold State.closeBatch; split <;> simp

/-- A marker's offer changes the framer and the flags (R171). -/
@[simp] theorem State.offerMarker_frame (p : Payload) :
    (s.offerMarker p).variant = s.variant ∧ (s.offerMarker p).pins = s.pins ∧ (s.offerMarker p).params = s.params ∧
    (s.offerMarker p).hlr = s.hlr ∧ (s.offerMarker p).ant = s.ant ∧ (s.offerMarker p).emq = s.emq ∧
    (s.offerMarker p).eca = s.eca ∧ (s.offerMarker p).ptf = s.ptf ∧ (s.offerMarker p).tbs = s.tbs ∧
    (s.offerMarker p).exu = s.exu ∧ (s.offerMarker p).tru = s.tru ∧ (s.offerMarker p).cmi = s.cmi ∧
    (s.offerMarker p).freeCount = s.freeCount ∧ (s.offerMarker p).pending = s.pending := by
  simp [State.offerMarker]

/-- Placing a record changes the framer and the flags (R170). -/
@[simp] theorem State.placeRecord_frame (r : PointRecord) :
    (s.placeRecord r).variant = s.variant ∧ (s.placeRecord r).pins = s.pins ∧ (s.placeRecord r).params = s.params ∧
    (s.placeRecord r).hlr = s.hlr ∧ (s.placeRecord r).ant = s.ant ∧ (s.placeRecord r).emq = s.emq ∧
    (s.placeRecord r).eca = s.eca ∧ (s.placeRecord r).ptf = s.ptf ∧ (s.placeRecord r).tbs = s.tbs ∧
    (s.placeRecord r).exu = s.exu ∧ (s.placeRecord r).tru = s.tru ∧ (s.placeRecord r).cmi = s.cmi ∧
    (s.placeRecord r).freeCount = s.freeCount ∧ (s.placeRecord r).pending = s.pending := by
  unfold State.placeRecord; dsimp only; split <;> simp

/-- The batch age test changes the framer and the flags (R172). -/
@[simp] theorem State.batchAgeTest_frame :
    (s.batchAgeTest).variant = s.variant ∧ (s.batchAgeTest).pins = s.pins ∧ (s.batchAgeTest).params = s.params ∧
    (s.batchAgeTest).hlr = s.hlr ∧ (s.batchAgeTest).ant = s.ant ∧ (s.batchAgeTest).emq = s.emq ∧
    (s.batchAgeTest).eca = s.eca ∧ (s.batchAgeTest).ptf = s.ptf ∧ (s.batchAgeTest).tbs = s.tbs ∧
    (s.batchAgeTest).exu = s.exu ∧ (s.batchAgeTest).tru = s.tru ∧ (s.batchAgeTest).cmi = s.cmi ∧
    (s.batchAgeTest).freeCount = s.freeCount ∧ (s.batchAgeTest).pending = s.pending := by
  unfold State.batchAgeTest; split <;> simp

/-- The departure test changes the framer alone (R176). -/
@[simp] theorem State.tryDepart_frame :
    (s.tryDepart).variant = s.variant ∧ (s.tryDepart).pins = s.pins ∧ (s.tryDepart).params = s.params ∧
    (s.tryDepart).hlr = s.hlr ∧ (s.tryDepart).ant = s.ant ∧ (s.tryDepart).emq = s.emq ∧ (s.tryDepart).eca = s.eca ∧
    (s.tryDepart).ptf = s.ptf ∧ (s.tryDepart).tbs = s.tbs ∧ (s.tryDepart).exu = s.exu ∧ (s.tryDepart).tru = s.tru ∧
    (s.tryDepart).flags = s.flags ∧ (s.tryDepart).cmi = s.cmi ∧ (s.tryDepart).freeCount = s.freeCount ∧
    (s.tryDepart).pending = s.pending := by
  simp [State.tryDepart]

/-- Admitting waiting answers changes the framer alone (R174). -/
@[simp] theorem admitWaiting_frame (as : List Answer) (s : State) :
    (admitWaiting as s).variant = s.variant ∧ (admitWaiting as s).pins = s.pins ∧
    (admitWaiting as s).params = s.params ∧ (admitWaiting as s).hlr = s.hlr ∧ (admitWaiting as s).ant = s.ant ∧
    (admitWaiting as s).emq = s.emq ∧ (admitWaiting as s).eca = s.eca ∧ (admitWaiting as s).ptf = s.ptf ∧
    (admitWaiting as s).tbs = s.tbs ∧ (admitWaiting as s).exu = s.exu ∧ (admitWaiting as s).tru = s.tru ∧
    (admitWaiting as s).flags = s.flags ∧ (admitWaiting as s).cmi = s.cmi ∧
    (admitWaiting as s).freeCount = s.freeCount ∧ (admitWaiting as s).pending = s.pending := by
  induction as generalizing s with
  | nil => simp [admitWaiting]
  | cons a rest ih =>
    unfold admitWaiting
    split
    · have h := ih (s.admitFrame (.rsp a))
      simp only [State.admitFrame_frame] at h
      exact h
    · simp

/-- Admitting waiting answers changes the framer alone (R174). -/
@[simp] theorem State.admitAnswers_frame :
    (s.admitAnswers).variant = s.variant ∧ (s.admitAnswers).pins = s.pins ∧ (s.admitAnswers).params = s.params ∧
    (s.admitAnswers).hlr = s.hlr ∧ (s.admitAnswers).ant = s.ant ∧ (s.admitAnswers).emq = s.emq ∧
    (s.admitAnswers).eca = s.eca ∧ (s.admitAnswers).ptf = s.ptf ∧ (s.admitAnswers).tbs = s.tbs ∧
    (s.admitAnswers).exu = s.exu ∧ (s.admitAnswers).tru = s.tru ∧ (s.admitAnswers).flags = s.flags ∧
    (s.admitAnswers).cmi = s.cmi ∧ (s.admitAnswers).freeCount = s.freeCount ∧ (s.admitAnswers).pending = s.pending := by
  simp [State.admitAnswers]

/-- A departure's end changes the framer alone (R176). -/
@[simp] theorem State.endDeparture_frame :
    (s.endDeparture).variant = s.variant ∧ (s.endDeparture).pins = s.pins ∧ (s.endDeparture).params = s.params ∧
    (s.endDeparture).hlr = s.hlr ∧ (s.endDeparture).ant = s.ant ∧ (s.endDeparture).emq = s.emq ∧
    (s.endDeparture).eca = s.eca ∧ (s.endDeparture).ptf = s.ptf ∧ (s.endDeparture).tbs = s.tbs ∧
    (s.endDeparture).exu = s.exu ∧ (s.endDeparture).tru = s.tru ∧ (s.endDeparture).flags = s.flags ∧
    (s.endDeparture).cmi = s.cmi ∧ (s.endDeparture).freeCount = s.freeCount ∧ (s.endDeparture).pending = s.pending := by
  unfold State.endDeparture; split <;> simp

/-- The input lines change the lines, and at a rise of REC_READY the framer. -/
@[simp] theorem State.withLines_frame (l : Lines) :
    (s.withLines l).variant = s.variant ∧ (s.withLines l).params = s.params ∧ (s.withLines l).hlr = s.hlr ∧
    (s.withLines l).ant = s.ant ∧ (s.withLines l).emq = s.emq ∧ (s.withLines l).eca = s.eca ∧
    (s.withLines l).ptf = s.ptf ∧ (s.withLines l).tbs = s.tbs ∧ (s.withLines l).exu = s.exu ∧
    (s.withLines l).tru = s.tru ∧ (s.withLines l).flags = s.flags ∧ (s.withLines l).cmi = s.cmi ∧
    (s.withLines l).freeCount = s.freeCount ∧ (s.withLines l).pending = s.pending := by
  unfold State.withLines; dsimp only; split <;> simp

/-! ### What the operations do to the framer -/

/-- R173, R174, R175, R176: the framer after an admission. -/
theorem State.admitFrame_rlf (p : Payload) :
    (s.admitFrame p).rlf =
      { s.rlf with
        buffer := s.rlf.buffer ++ [s.stamp p]
        gap := s.rlf.gap && !p.isPts
        departing := s.rlf.departing || (s.rlf.buffer.isEmpty && s.pins.recReady) } := rfl

/-- R175: the framer after a refusal. -/
theorem State.refuseFrame_rlf (p : Payload) :
    (s.refuseFrame p).rlf =
      { s.rlf with gap := true, dropped := min (2 ^ 32 - 1) (s.rlf.dropped + p.points) } := rfl

/-- R175: a refusal raises OUT_OVERRUN. -/
theorem State.refuseFrame_flags (p : Payload) : (s.refuseFrame p).flags = s.flags ||| Event.outOverrun.bit := rfl

/-- R173: an offer admits or refuses, by the one test. -/
theorem State.offer_cases (p : Payload) :
    (s.fitsOutsideReserve p = true ∧ s.offer p = s.admitFrame p) ∨
      (s.fitsOutsideReserve p = false ∧ s.offer p = s.refuseFrame p) := by
  unfold State.offer
  cases h : s.fitsOutsideReserve p <;> simp

/-- R174: an answer is admitted, or joins the wait list and changes nothing else. -/
theorem State.offerAnswer_cases (a : Answer) :
    (s.rlf.waiting = [] ∧ s.fitsFreeSpace (.rsp a) = true ∧ s.offerAnswer a = s.admitFrame (.rsp a)) ∨
      ((s.rlf.waiting ≠ [] ∨ s.fitsFreeSpace (.rsp a) = false) ∧
        s.offerAnswer a = s.onRlf fun r => { r with waiting := r.waiting ++ [a] }) := by
  unfold State.offerAnswer
  cases hw : s.rlf.waiting <;> cases hf : s.fitsFreeSpace (.rsp a) <;> simp

/-- R170: the batch is empty once closed. -/
@[simp] theorem State.closeBatch_batch : s.closeBatch.rlf.batch = [] := by
  unfold State.closeBatch
  split
  · assumption
  · rename_i r rs _
    rcases State.offer_cases (s.onRlf fun f => { f with batch := [] }) (.pts (r :: rs)) with ⟨_, h⟩ | ⟨_, h⟩ <;>
      simp [h, State.admitFrame_rlf, State.refuseFrame_rlf]

/-- Closing an empty batch does nothing (R171, R172). -/
theorem State.closeBatch_of_empty (h : s.rlf.batch = []) : s.closeBatch = s := by
  unfold State.closeBatch; simp [h]

/-- An offer leaves the open batch and the wait list. -/
@[simp] theorem State.offer_batch_waiting (p : Payload) :
    (s.offer p).rlf.batch = s.rlf.batch ∧ (s.offer p).rlf.waiting = s.rlf.waiting := by
  rcases s.offer_cases p with ⟨_, h⟩ | ⟨_, h⟩ <;> simp [h, State.admitFrame_rlf, State.refuseFrame_rlf]

/-! ### Bytes -/

@[simp] theorem framesBytes_nil : framesBytes [] = 0 := rfl

@[simp] theorem framesBytes_cons (f : OutFrame) (fs : List OutFrame) :
    framesBytes (f :: fs) = f.payload.frameLength + framesBytes fs := by simp [framesBytes]

@[simp] theorem framesBytes_append (fs gs : List OutFrame) : framesBytes (fs ++ gs) = framesBytes fs + framesBytes gs := by
  simp [framesBytes]

/-- Section 9.1: the buffer's bytes are those of its RSP frames and of the others. -/
theorem State.bufferBytes_eq : s.bufferBytes = s.rspBytes + s.otherBytes := by
  unfold State.bufferBytes State.rspBytes State.otherBytes
  induction s.rlf.buffer with
  | nil => rfl
  | cons f fs ih => cases h : f.payload.isRsp <;> simp [h, ih] <;> omega

@[simp] theorem State.stamp_payload (p : Payload) : (s.stamp p).payload = p := rfl

/-- An admitted frame's bytes join its class. -/
theorem State.admitFrame_bytes (p : Payload) :
    (s.admitFrame p).bufferBytes = s.bufferBytes + p.frameLength ∧
      (s.admitFrame p).otherBytes = s.otherBytes + (if p.isRsp then 0 else p.frameLength) := by
  unfold State.bufferBytes State.otherBytes
  rw [State.admitFrame_rlf]
  cases h : p.isRsp <;> simp [List.filter_append, h]

end Sys2Proof.Machine
end

