-- ==== Sys2Proof/Laws/Trigger.lean ====
section
/-! SUPPORT. What each operation of the Trigger Unit can change, and its equations. -/

namespace Sys2Proof.Machine

variable (s : State)

/-- A capture that becomes FULL changes the unit and the flags (R163). -/
@[simp] theorem State.captureBecomesFull_frame :
    (s.captureBecomesFull).variant = s.variant ∧ (s.captureBecomesFull).pins = s.pins ∧
    (s.captureBecomesFull).params = s.params ∧ (s.captureBecomesFull).hlr = s.hlr ∧
    (s.captureBecomesFull).ant = s.ant ∧ (s.captureBecomesFull).emq = s.emq ∧ (s.captureBecomesFull).eca = s.eca ∧
    (s.captureBecomesFull).ptf = s.ptf ∧ (s.captureBecomesFull).tbs = s.tbs ∧ (s.captureBecomesFull).exu = s.exu ∧
    (s.captureBecomesFull).rlf = s.rlf ∧ (s.captureBecomesFull).cmi = s.cmi ∧
    (s.captureBecomesFull).freeCount = s.freeCount ∧ (s.captureBecomesFull).pending = s.pending := by
  simp [State.captureBecomesFull]

/-- A record's passage changes the unit and the flags (R154). -/
@[simp] theorem State.triggerPass_frame (r : PointRecord) :
    ((s.triggerPass r).1).variant = s.variant ∧ ((s.triggerPass r).1).pins = s.pins ∧
    ((s.triggerPass r).1).params = s.params ∧ ((s.triggerPass r).1).hlr = s.hlr ∧ ((s.triggerPass r).1).ant = s.ant ∧
    ((s.triggerPass r).1).emq = s.emq ∧ ((s.triggerPass r).1).eca = s.eca ∧ ((s.triggerPass r).1).ptf = s.ptf ∧
    ((s.triggerPass r).1).tbs = s.tbs ∧ ((s.triggerPass r).1).exu = s.exu ∧ ((s.triggerPass r).1).rlf = s.rlf ∧
    ((s.triggerPass r).1).cmi = s.cmi ∧ ((s.triggerPass r).1).freeCount = s.freeCount ∧
    ((s.triggerPass r).1).pending = s.pending := by
  unfold State.triggerPass
  dsimp only
  repeat' split
  all_goals simp

/-- A record's passage and placement change the Trigger Unit, the framer and the flags (R100, R154). -/
@[simp] theorem State.passRecord_frame (r : PointRecord) :
    (s.passRecord r).variant = s.variant ∧ (s.passRecord r).pins = s.pins ∧ (s.passRecord r).params = s.params ∧
    (s.passRecord r).hlr = s.hlr ∧ (s.passRecord r).ant = s.ant ∧ (s.passRecord r).emq = s.emq ∧
    (s.passRecord r).eca = s.eca ∧ (s.passRecord r).ptf = s.ptf ∧ (s.passRecord r).tbs = s.tbs ∧
    (s.passRecord r).exu = s.exu ∧ (s.passRecord r).cmi = s.cmi ∧ (s.passRecord r).freeCount = s.freeCount ∧
    (s.passRecord r).pending = s.pending := by
  simp [State.passRecord]

/-- A sweep change changes the unit and the flags (R159). -/
@[simp] theorem State.sweepChange_frame :
    (s.sweepChange).variant = s.variant ∧ (s.sweepChange).pins = s.pins ∧ (s.sweepChange).params = s.params ∧
    (s.sweepChange).hlr = s.hlr ∧ (s.sweepChange).ant = s.ant ∧ (s.sweepChange).emq = s.emq ∧
    (s.sweepChange).eca = s.eca ∧ (s.sweepChange).ptf = s.ptf ∧ (s.sweepChange).tbs = s.tbs ∧
    (s.sweepChange).exu = s.exu ∧ (s.sweepChange).rlf = s.rlf ∧ (s.sweepChange).cmi = s.cmi ∧
    (s.sweepChange).freeCount = s.freeCount ∧ (s.sweepChange).pending = s.pending := by
  unfold State.sweepChange; dsimp only; split <;> simp

/-- An entry to STOPPED changes the unit and the flags (R164). -/
@[simp] theorem State.captureAtStop_frame :
    (s.captureAtStop).variant = s.variant ∧ (s.captureAtStop).pins = s.pins ∧ (s.captureAtStop).params = s.params ∧
    (s.captureAtStop).hlr = s.hlr ∧ (s.captureAtStop).ant = s.ant ∧ (s.captureAtStop).emq = s.emq ∧
    (s.captureAtStop).eca = s.eca ∧ (s.captureAtStop).ptf = s.ptf ∧ (s.captureAtStop).tbs = s.tbs ∧
    (s.captureAtStop).exu = s.exu ∧ (s.captureAtStop).rlf = s.rlf ∧ (s.captureAtStop).cmi = s.cmi ∧
    (s.captureAtStop).freeCount = s.freeCount ∧ (s.captureAtStop).pending = s.pending := by
  unfold State.captureAtStop; split <;> simp

/-! ### Equations -/

theorem State.captureBecomesFull_tru : s.captureBecomesFull.tru = s.tru.fillUp := by simp [State.captureBecomesFull]

/-- R159: the unit after a sweep change. -/
theorem State.sweepChange_tru :
    s.sweepChange.tru =
      if s.tru.config.rearm && (decide (s.tru.state = .l1Hit) || decide (s.tru.state = .l2Hit)) then
        { s.tru with state := .waitL1, window := 0 }
      else s.tru := by
  unfold State.sweepChange
  dsimp only
  split <;> simp

/-- R154, item 1: what the test of a record does, by the state of the unit. -/
theorem Tru.test_cases (t : Tru) (r : PointRecord) :
    ((t.state = .off ∨ t.state = .l1Hit ∨ t.state = .l2Hit) ∧ t.test r = (t, false)) ∨
      (t.state = .waitL1 ∧ t.config.condA.meets r = false ∧ t.test r = (t, false)) ∨
      (t.state = .waitL1 ∧ t.config.condA.meets r = true ∧ t.config.mode = .one ∧
        t.test r = ({ t with state := .l1Hit }, true)) ∨
      (t.state = .waitL1 ∧ t.config.condA.meets r = true ∧ t.config.mode = .two ∧
        t.test r = ({ t with state := .waitL2, window := t.config.l2Window }, false)) ∨
      (t.state = .waitL2 ∧ t.config.condB.meets r = true ∧ t.test r = ({ t with state := .l2Hit, window := 0 }, true)) ∨
      (t.state = .waitL2 ∧ t.config.condB.meets r = false ∧ t.window ≤ 1 ∧
        t.test r = ({ t with state := .waitL1, window := 0 }, false)) ∨
      (t.state = .waitL2 ∧ t.config.condB.meets r = false ∧ 1 < t.window ∧
        t.test r = ({ t with window := t.window - 1 }, false)) := by
  unfold Tru.test
  cases hs : t.state
  · simp
  · cases hA : t.config.condA.meets r <;> cases hm : t.config.mode <;> simp
  · simp
  · cases hB : t.config.condB.meets r
    · by_cases hw : t.window ≤ 1
      · simp [hw]
      · simp [hw]; omega
    · simp
  · simp

/-- R154: the Trigger Unit after a record, as one expression in the unit before it. -/
def Tru.afterRecord (t : Tru) (r : PointRecord) : Tru :=
  let t2 := if (t.test r).2 then (t.test r).1.hit else (t.test r).1
  let m := t2.markRecord (t.test r).2 r
  let begins := m.1.beginsCapture (t.test r).2
  let t4 := if begins then m.1.beginCapture m.2 else m.1.noteSkipped (t.test r).2
  let t5 := if !begins && decide (t4.capState = .filling) then t4.appendCapture m.2 else t4
  let t6 := if (!begins && decide (t4.capState = .filling)) && decide (t5.toGo = 0) then t5.fillUp else t5
  if t5.state = .off then t6 else t6.joinHistory m.2

theorem State.triggerPass_tru (r : PointRecord) : (s.triggerPass r).1.tru = s.tru.afterRecord r := by
  unfold State.triggerPass Tru.afterRecord
  dsimp only
  generalize s.tru.test r = x
  obtain ⟨t1, isHit⟩ := x
  dsimp only
  repeat' split
  all_goals simp_all [State.captureBecomesFull_tru]

/-- R154: the record as it leaves the unit differs in MARK alone. -/
theorem State.triggerPass_record (r : PointRecord) : ∃ m, (s.triggerPass r).2 = { r with mark := m } := by
  unfold State.triggerPass
  dsimp only
  unfold Tru.markRecord
  repeat' split
  all_goals exact ⟨_, rfl⟩

end Sys2Proof.Machine
end

