-- ==== Sys2Proof/Laws/Points.lean ====
section
/-! SUPPORT. What each operation of the Point Former can change, and the length of a pulse's records. -/

namespace Sys2Proof.Machine

variable (s : State)

/-- The sweep test changes the Point Former, the Trigger Unit, the framer and the flags (R97). -/
@[simp] theorem State.sweepTest_frame (p : Pulse) :
    (s.sweepTest p).variant = s.variant ∧ (s.sweepTest p).pins = s.pins ∧ (s.sweepTest p).params = s.params ∧
    (s.sweepTest p).hlr = s.hlr ∧ (s.sweepTest p).ant = s.ant ∧ (s.sweepTest p).emq = s.emq ∧
    (s.sweepTest p).eca = s.eca ∧ (s.sweepTest p).tbs = s.tbs ∧ (s.sweepTest p).exu = s.exu ∧
    (s.sweepTest p).cmi = s.cmi ∧ (s.sweepTest p).freeCount = s.freeCount ∧ (s.sweepTest p).pending = s.pending := by
  unfold State.sweepTest; split <;> simp

/-- The passage of records changes the Trigger Unit, the framer and the flags (R99, R100). -/
@[simp] theorem passRecords_frame (rs : List PointRecord) (s : State) :
    (passRecords rs s).variant = s.variant ∧ (passRecords rs s).pins = s.pins ∧
    (passRecords rs s).params = s.params ∧ (passRecords rs s).hlr = s.hlr ∧ (passRecords rs s).ant = s.ant ∧
    (passRecords rs s).emq = s.emq ∧ (passRecords rs s).eca = s.eca ∧ (passRecords rs s).ptf = s.ptf ∧
    (passRecords rs s).tbs = s.tbs ∧ (passRecords rs s).exu = s.exu ∧ (passRecords rs s).cmi = s.cmi ∧
    (passRecords rs s).freeCount = s.freeCount ∧ (passRecords rs s).pending = s.pending := by
  induction rs generalizing s with
  | nil => simp [passRecords]
  | cons r rest ih =>
    unfold passRecords
    have h := ih (s.passRecord r)
    simp only [State.passRecord_frame] at h
    exact h

/-- The handling of a closed pulse changes the Point Former, the Trigger Unit, the framer, the flags and the read port (R83). -/
@[simp] theorem State.formPoints_frame (p : Pulse) (e : Bool) :
    (s.formPoints p e).variant = s.variant ∧ (s.formPoints p e).pins = s.pins ∧
    (s.formPoints p e).params = s.params ∧ (s.formPoints p e).hlr = s.hlr ∧ (s.formPoints p e).ant = s.ant ∧
    (s.formPoints p e).emq = s.emq ∧ (s.formPoints p e).eca = s.eca ∧ (s.formPoints p e).exu = s.exu ∧ (s.formPoints p e).pending = s.pending := by
  simp [State.formPoints]

/-- The handling of a closed pulse leaves the banks, statuses and generation (R83: no switch falls inside it). -/
@[simp] theorem State.formPoints_banks (p : Pulse) (e : Bool) :
    (s.formPoints p e).tbs.staged = s.tbs.staged ∧ (s.formPoints p e).tbs.bankActive = s.tbs.bankActive ∧
      (s.formPoints p e).tbs.retiring = s.tbs.retiring ∧ (s.formPoints p e).tbs.activeStatus = s.tbs.activeStatus ∧
      (s.formPoints p e).tbs.stagedStatus = s.tbs.stagedStatus ∧ (s.formPoints p e).tbs.generation = s.tbs.generation ∧
      (s.formPoints p e).tbs.protection = s.tbs.protection := by
  simp [State.formPoints]

@[simp] theorem State.formPoints_cmi (p : Pulse) (e : Bool) :
    (s.formPoints p e).cmi.queue = s.cmi.queue ∧ (s.formPoints p e).cmi.reading.isSome = s.cmi.reading.isSome := by
  simp [State.formPoints]

/-- R97: LastSweep after the test is the pulse's sweep. -/
@[simp] theorem State.sweepTest_ptf (p : Pulse) : (s.sweepTest p).ptf.lastSweep = some p.sweep := by
  unfold State.sweepTest; split <;> simp_all

/-- R83: LastSweep after a pulse's handling. -/
@[simp] theorem State.formPoints_ptf (p : Pulse) (e : Bool) : (s.formPoints p e).ptf.lastSweep = some p.sweep := by
  simp [State.formPoints]

/-- R85: the acceptable set is a sublist of the echo list. -/
theorem acceptableSet_sublist (q : PolicyEntry) (es : List EchoEntry) : (acceptableSet q es).Sublist es :=
  List.filter_sublist

@[simp] theorem withPositions_length (a : List EchoEntry) : (withPositions a).length = a.length := by
  simp [withPositions]

end Sys2Proof.Machine
end

