-- ==== Sys2Proof/Laws/Queue.lean ====
section
/-! SUPPORT. What each operation of the Emission Queue can change, and its equations. -/

namespace Sys2Proof.Machine

variable (s : State)

/-- An entry to STOPPED changes the run state and the three blocks of R43, with the flags and the seek pending. -/
@[simp] theorem State.enterStopped_frame :
    (s.enterStopped).variant = s.variant ∧ (s.enterStopped).pins = s.pins ∧ (s.enterStopped).params = s.params ∧
    (s.enterStopped).hlr = s.hlr ∧ (s.enterStopped).ant = s.ant ∧ (s.enterStopped).eca = s.eca ∧
    (s.enterStopped).ptf = s.ptf ∧ (s.enterStopped).pending = s.pending := by
  simp [State.enterStopped]

/-- The test of R43 changes what an entry to STOPPED does. -/
@[simp] theorem State.drainTest_frame :
    (s.drainTest).variant = s.variant ∧ (s.drainTest).pins = s.pins ∧ (s.drainTest).params = s.params ∧
    (s.drainTest).hlr = s.hlr ∧ (s.drainTest).ant = s.ant ∧ (s.drainTest).eca = s.eca ∧ (s.drainTest).ptf = s.ptf ∧ (s.drainTest).pending = s.pending := by
  unfold State.drainTest; split <;> simp

/-- A close leaves the lines, the parameters, the receiver and the tracker (R49). -/
@[simp] theorem State.closeHead_frame (e : Bool) :
    (s.closeHead e).variant = s.variant ∧ (s.closeHead e).pins = s.pins ∧ (s.closeHead e).params = s.params ∧
    (s.closeHead e).hlr = s.hlr ∧ (s.closeHead e).ant = s.ant ∧
    (s.closeHead e).pending = s.pending := by
  unfold State.closeHead; split <;> simp

/-- Closing leaves the lines, the parameters, the receiver and the tracker (R48). -/
@[simp] theorem closeExpired_frame (n : Nat) (s : State) :
    (closeExpired n s).variant = s.variant ∧ (closeExpired n s).pins = s.pins ∧
    (closeExpired n s).params = s.params ∧ (closeExpired n s).hlr = s.hlr ∧ (closeExpired n s).ant = s.ant ∧ (closeExpired n s).pending = s.pending := by
  induction n generalizing s with
  | zero => simp [closeExpired]
  | succ n ih =>
    unfold closeExpired
    split
    · simp
    · dsimp only
      split
      · have h := ih (s.pipelineRequest.closeHead false)
        simp only [State.closeHead_frame, State.pipelineRequest_frame] at h
        exact h
      · simp

/-- Closing leaves the lines, the parameters, the receiver and the tracker (R48). -/
@[simp] theorem State.closing_frame :
    (s.closing).variant = s.variant ∧ (s.closing).pins = s.pins ∧ (s.closing).params = s.params ∧
    (s.closing).hlr = s.hlr ∧ (s.closing).ant = s.ant ∧
    (s.closing).pending = s.pending := by
  simp [State.closing]

/-- An eviction leaves the lines, the parameters, the receiver and the tracker (R46). -/
@[simp] theorem State.evictHead_frame :
    (s.evictHead).variant = s.variant ∧ (s.evictHead).pins = s.pins ∧ (s.evictHead).params = s.params ∧
    (s.evictHead).hlr = s.hlr ∧ (s.evictHead).ant = s.ant ∧ (s.evictHead).pending = s.pending := by
  unfold State.evictHead; dsimp only; split <;> simp

/-- The end of a resync changes what an entry to STOPPED does (R52). -/
@[simp] theorem State.endResync_frame (why : ResyncReason) :
    (s.endResync why).variant = s.variant ∧ (s.endResync why).pins = s.pins ∧ (s.endResync why).params = s.params ∧
    (s.endResync why).hlr = s.hlr ∧ (s.endResync why).ant = s.ant ∧ (s.endResync why).eca = s.eca ∧
    (s.endResync why).ptf = s.ptf ∧ (s.endResync why).pending = s.pending := by
  unfold State.endResync; repeat' split
  all_goals simp

/-- A resync leaves the receiver, the tracker and the Point Former (R51). -/
@[simp] theorem State.doResync_frame (why : ResyncReason) :
    (s.doResync why).variant = s.variant ∧ (s.doResync why).pins = s.pins ∧ (s.doResync why).params = s.params ∧
    (s.doResync why).hlr = s.hlr ∧ (s.doResync why).ant = s.ant ∧ (s.doResync why).ptf = s.ptf ∧ (s.doResync why).pending = s.pending := by
  simp [State.doResync]

/-- A resync asked for leaves the receiver, the tracker and the Point Former. -/
@[simp] theorem State.askResync_frame (why : ResyncReason) :
    (s.askResync why).variant = s.variant ∧ (s.askResync why).pins = s.pins ∧ (s.askResync why).params = s.params ∧
    (s.askResync why).hlr = s.hlr ∧ (s.askResync why).ant = s.ant ∧ (s.askResync why).ptf = s.ptf ∧ (s.askResync why).pending = s.pending := by
  unfold State.askResync; split <;> simp

/-- The test of R41 changes the run state, the flags and the seek pending. -/
@[simp] theorem State.tryStart_frame :
    (s.tryStart).variant = s.variant ∧ (s.tryStart).pins = s.pins ∧ (s.tryStart).params = s.params ∧
    (s.tryStart).hlr = s.hlr ∧ (s.tryStart).ant = s.ant ∧ (s.tryStart).eca = s.eca ∧ (s.tryStart).ptf = s.ptf ∧
    (s.tryStart).tbs = s.tbs ∧ (s.tryStart).tru = s.tru ∧ (s.tryStart).rlf = s.rlf ∧ (s.tryStart).cmi = s.cmi ∧
    (s.tryStart).freeCount = s.freeCount ∧ (s.tryStart).pending = s.pending := by
  unfold State.tryStart; split <;> simp

/-! ### Equations -/

/-- R43: an entry to STOPPED changes the run state alone in the Emission Queue. -/
theorem State.enterStopped_emq : s.enterStopped.emq = { s.emq with run := .stopped } := by
  simp [State.enterStopped]

theorem State.drainTest_cases :
    (s.emq.run = .draining ∧ s.emq.queue = [] ∧ s.drainTest = s.enterStopped) ∨
      ((s.emq.run ≠ .draining ∨ s.emq.queue ≠ []) ∧ s.drainTest = s) := by
  unfold State.drainTest
  by_cases h : s.emq.run = .draining ∧ s.emq.queue = []
  · left; exact ⟨h.1, h.2, if_pos h⟩
  · right; exact ⟨by tauto, if_neg h⟩

/-- R43: the queue and the counters under the drain test. -/
@[simp] theorem State.drainTest_emq :
    s.drainTest.emq.queue = s.emq.queue ∧ s.drainTest.emq.accepted = s.emq.accepted ∧
      s.drainTest.emq.closed = s.emq.closed ∧ s.drainTest.emq.flushed = s.emq.flushed ∧
      s.drainTest.emq.evicted = s.emq.evicted ∧ s.drainTest.emq.lastClosed = s.emq.lastClosed ∧
      s.drainTest.emq.lastResync = s.emq.lastResync := by
  rcases s.drainTest_cases with ⟨_, _, h⟩ | ⟨_, h⟩ <;> simp [h, State.enterStopped_emq]

/-- R49: the Emission Queue after a close, but for the run state. -/
theorem State.closeHead_emq {p : Pulse} {rest : List Pulse} (h : s.emq.queue = p :: rest) (e : Bool) :
    (s.closeHead e).emq.queue = rest ∧ (s.closeHead e).emq.accepted = s.emq.accepted ∧
      (s.closeHead e).emq.closed = s.emq.closed + 1 ∧ (s.closeHead e).emq.flushed = s.emq.flushed ∧
      (s.closeHead e).emq.evicted = s.emq.evicted ∧ (s.closeHead e).emq.lastClosed = some p.seq ∧
      (s.closeHead e).emq.lastResync = s.emq.lastResync := by
  unfold State.closeHead
  simp [h]

/-- R49: the pool after a close. -/
theorem State.closeHead_eca {p : Pulse} {rest : List Pulse} (h : s.emq.queue = p :: rest) (e : Bool) :
    (s.closeHead e).eca = { s.eca with free := s.eca.free + p.echoes.length } := by
  unfold State.closeHead
  simp [h]

/-- A close with no open pulse does nothing. -/
theorem State.closeHead_of_empty (h : s.emq.queue = []) (e : Bool) : s.closeHead e = s := by
  unfold State.closeHead; simp [h]

/-- R49: the run state after a close: STOPPED when a drain has emptied the queue. -/
theorem State.closeHead_run {p : Pulse} {rest : List Pulse} (h : s.emq.queue = p :: rest) (e : Bool) :
    (s.closeHead e).emq.run = if s.emq.run = .draining ∧ rest = [] then .stopped else s.emq.run := by
  unfold State.closeHead
  simp only [h]
  unfold State.drainTest
  simp only [State.onEmq_emq, State.onEca_emq, State.formPoints_frame]
  by_cases hd : s.emq.run = .draining ∧ rest = []
  · simp [hd, State.enterStopped_emq]
  · simp [hd]

/-- R52: the Emission Queue after the end of a resync, but for the run state. -/
@[simp] theorem State.endResync_emq (why : ResyncReason) :
    (s.endResync why).emq.queue = s.emq.queue ∧ (s.endResync why).emq.accepted = s.emq.accepted ∧
      (s.endResync why).emq.closed = s.emq.closed ∧ (s.endResync why).emq.flushed = s.emq.flushed ∧
      (s.endResync why).emq.evicted = s.emq.evicted ∧ (s.endResync why).emq.lastClosed = s.emq.lastClosed ∧
      (s.endResync why).emq.lastResync = s.emq.lastResync := by
  unfold State.endResync
  repeat' split
  all_goals simp [State.enterStopped_emq]

/-- R51: the Emission Queue after a resync, but for the run state. -/
@[simp] theorem State.doResync_emq (why : ResyncReason) :
    (s.doResync why).emq.queue = [] ∧ (s.doResync why).emq.accepted = s.emq.accepted ∧
      (s.doResync why).emq.closed = s.emq.closed ∧
      (s.doResync why).emq.flushed = s.emq.flushed + BitVec.ofNat 32 s.emq.queue.length ∧
      (s.doResync why).emq.evicted = s.emq.evicted ∧ (s.doResync why).emq.lastClosed = s.emq.lastClosed ∧
      (s.doResync why).emq.lastResync = some why := by
  simp [State.doResync]

/-- R51: the Echo Assigner after a resync. -/
theorem State.doResync_eca (why : ResyncReason) :
    (s.doResync why).eca =
      { s.eca with free := s.eca.free + heldEchoes s.emq.queue, zoneTrack := Eca.zeroTrack } := by
  simp [State.doResync]

/-- R52, R55: the run state after a resync. -/
theorem State.doResync_run (why : ResyncReason) :
    (s.doResync why).emq.run =
      match s.emq.run, why with
      | .running, .command => .running
      | .running, .timeJump => .running
      | .running, _ => .waiting
      | .draining, _ => .stopped
      | r, _ => r := by
  unfold State.doResync State.endResync
  simp only [State.offerMarker_frame, State.raise_emq, State.onEca_emq, State.onEmq_emq]
  cases h : s.emq.run <;> cases why <;> simp [State.enterStopped_emq, h]

/-- A resync is asked for in RUNNING and DRAINING alone. -/
theorem State.askResync_cases (why : ResyncReason) :
    ((s.emq.run = .running ∨ s.emq.run = .draining) ∧ s.askResync why = s.doResync why) ∨
      ((s.emq.run = .stopped ∨ s.emq.run = .waiting) ∧ s.askResync why = s) := by
  unfold State.askResync
  cases s.emq.run <;> simp

@[simp] theorem heldEchoes_nil : heldEchoes [] = 0 := rfl

@[simp] theorem heldEchoes_cons (p : Pulse) (ps : List Pulse) : heldEchoes (p :: ps) = p.echoes.length + heldEchoes ps := by
  simp [heldEchoes]

@[simp] theorem heldEchoes_append (ps qs : List Pulse) : heldEchoes (ps ++ qs) = heldEchoes ps + heldEchoes qs := by
  simp [heldEchoes]

/-- R41: what the test does. -/
theorem State.tryStart_cases :
    (s.emq.run = .waiting ∧ s.startConditions = true ∧
        s.tryStart = ((s.onEmq fun q => { q with run := .running }).raise .streamStarted).noticeSeek) ∨
      ((s.emq.run ≠ .waiting ∨ s.startConditions = false) ∧ s.tryStart = s) := by
  unfold State.tryStart
  by_cases h : s.emq.run = .waiting ∧ s.startConditions = true
  · left; exact ⟨h.1, h.2, if_pos h⟩
  · right
    refine ⟨?_, if_neg h⟩
    by_cases hw : s.emq.run = .waiting
    · right; simpa using fun hc => h ⟨hw, hc⟩
    · left; exact hw

/-- With no read in execution an entry to STOPPED leaves the interpreter alone (R43). -/
theorem State.enterStopped_cmi_of_none (h : s.cmi.reading = none) : s.enterStopped.cmi = s.cmi := by
  simp only [State.enterStopped, State.closeBatch_frame, State.captureAtStop_frame]
  rcases (State.stoppedSwitch_cases ((s.onEmq fun q => { q with run := .stopped }).raise .streamStopped)) with
    ⟨_, h1⟩ | ⟨_, h1⟩ <;> rw [h1]
  · rw [State.portGap_of_idle _ (State.commandWaits_of_none _ (by simpa using h)),
      State.generationSwitch_cmi_of_none _ (by simpa using h)]
    simp
  · simp

/-- With no read in execution a resync leaves the interpreter alone (R51, R52). -/
theorem State.doResync_cmi_of_none (h : s.cmi.reading = none) (why : ResyncReason) : (s.doResync why).cmi = s.cmi := by
  unfold State.doResync State.endResync
  dsimp only
  split
  · split <;> simp
  · rw [State.enterStopped_cmi_of_none] <;> simp [h]
  · simp
  · simp

end Sys2Proof.Machine
end

