-- ==== Sys2Proof/Laws/Angles.lean ====
section
/-! SUPPORT. What each operation of the Angle Tracker can change, and its equations. -/

namespace Sys2Proof.Machine

variable (s : State)

/-- An INDEX changes the tracker, and at a slip what a resync changes (R21). -/
@[simp] theorem State.handleIndex_frame (id : ChannelId) (raw : RawCount) :
    (s.handleIndex id raw).variant = s.variant ∧ (s.handleIndex id raw).pins = s.pins ∧
    (s.handleIndex id raw).params = s.params ∧ (s.handleIndex id raw).hlr = s.hlr ∧
    (s.handleIndex id raw).ptf = s.ptf ∧
    (s.handleIndex id raw).pending = s.pending := by
  unfold State.handleIndex; dsimp only; split <;> simp

/-- A sample changes the tracker, and at a fault what a resync changes (R24). -/
@[simp] theorem State.handleSample_frame (id : ChannelId) (raw : RawCount) :
    (s.handleSample id raw).variant = s.variant ∧ (s.handleSample id raw).pins = s.pins ∧
    (s.handleSample id raw).params = s.params ∧ (s.handleSample id raw).hlr = s.hlr ∧
    (s.handleSample id raw).ptf = s.ptf ∧
    (s.handleSample id raw).pending = s.pending := by
  unfold State.handleSample; dsimp only; split <;> simp

/-- The tracker's work changes the tracker, the read port, and at a fault what a resync changes (R26). -/
@[simp] theorem State.track_frame (m a : RawCount) :
    ((s.track m a).1).variant = s.variant ∧ ((s.track m a).1).pins = s.pins ∧ ((s.track m a).1).params = s.params ∧
    ((s.track m a).1).hlr = s.hlr ∧ ((s.track m a).1).ptf = s.ptf ∧
    ((s.track m a).1).pending = s.pending := by
  simp [State.track]

/-! ### Equations -/

@[simp] theorem Ant.channel_setChannel_self (a : Ant) (id : ChannelId) (c : Channel) : (a.setChannel id c).channel id = c := by
  cases id <;> rfl

theorem Ant.channel_setChannel_ne (a : Ant) {i j : ChannelId} (h : j ≠ i) (c : Channel) :
    (a.setChannel i c).channel j = a.channel j := by
  cases i <;> cases j <;> first | rfl | exact absurd rfl h

/-- Section 2.1: a channel's update leaves the last facet and the sweep number. -/
@[simp] theorem Ant.setChannel_rest (a : Ant) (id : ChannelId) (c : Channel) :
    (a.setChannel id c).lastFacet = a.lastFacet ∧ (a.setChannel id c).sweep = a.sweep := by
  cases id <;> simp [Ant.setChannel]

/-- R20, R21: the tracker after an INDEX. -/
theorem State.handleIndex_ant (id : ChannelId) (raw : RawCount) :
    (s.handleIndex id raw).ant =
      s.ant.setChannel id
        ((s.ant.channel id).atIndex (s.params.bits id) (s.params.margin id) (significant (s.params.bits id) raw)).1 := by
  unfold State.handleIndex; dsimp only; split <;> simp

/-- R22 to R25: the tracker after a sample. -/
theorem State.handleSample_ant (id : ChannelId) (raw : RawCount) :
    (s.handleSample id raw).ant =
      s.ant.setChannel id
        ((s.ant.channel id).sample (s.params.bits id) (s.params.limit id) (significant (s.params.bits id) raw)).1 := by
  unfold State.handleSample; dsimp only; split <;> simp

/-- R17: a significant count lies below 2^B. -/
theorem significant_lt (bits : Nat) (raw : RawCount) : significant bits raw < 2 ^ bits :=
  Nat.mod_lt _ (by positivity)

/-- 00_scope: a difference taken signed modulo 2^B lies in −2^(B−1)..2^(B−1) − 1. -/
theorem signedMod_range (bits : Nat) (h : 1 ≤ bits) (v : Int) :
    -(2 ^ (bits - 1) : Int) ≤ signedMod bits v ∧ signedMod bits v < (2 ^ (bits - 1) : Int) := by
  obtain ⟨b, rfl⟩ : ∃ b, bits = b + 1 := ⟨bits - 1, by omega⟩
  unfold signedMod
  have hp : (0 : Int) < 2 ^ b := by positivity
  have hle := Int.le_bmod (x := v) (m := 2 ^ (b + 1)) (by positivity)
  have hlt := Int.bmod_lt (x := v) (m := 2 ^ (b + 1)) (by positivity)
  have hc : ((2 ^ (b + 1) : Nat) : Int) = 2 * 2 ^ b := by push_cast; ring
  rw [hc] at hle hlt
  simp only [Nat.add_sub_cancel]
  omega

end Sys2Proof.Machine
end

