-- ==== Sys2Proof/Laws/Commands.lean ====
section
/-! SUPPORT. What each command can change, and the path of a command to its answer. -/

namespace Sys2Proof.Machine

variable (s : State)

/-- What Identify can change. -/
@[simp] theorem cmdIdentify_frame (args : List Byte) :
    ((cmdIdentify args s).state).variant = s.variant ∧ ((cmdIdentify args s).state).pins = s.pins ∧
    ((cmdIdentify args s).state).params = s.params ∧ ((cmdIdentify args s).state).hlr = s.hlr ∧
    ((cmdIdentify args s).state).ant = s.ant ∧ ((cmdIdentify args s).state).emq = s.emq ∧
    ((cmdIdentify args s).state).eca = s.eca ∧ ((cmdIdentify args s).state).ptf = s.ptf ∧
    ((cmdIdentify args s).state).tbs = s.tbs ∧ ((cmdIdentify args s).state).exu = s.exu ∧
    ((cmdIdentify args s).state).tru = s.tru ∧ ((cmdIdentify args s).state).rlf = s.rlf ∧
    ((cmdIdentify args s).state).flags = s.flags ∧ ((cmdIdentify args s).state).cmi = s.cmi ∧
    ((cmdIdentify args s).state).freeCount = s.freeCount ∧ ((cmdIdentify args s).state).pending = s.pending := by
  unfold cmdIdentify Reply.ofLength
  split <;> simp [State.accept, State.refuse]

/-- What GetStatus can change. -/
@[simp] theorem cmdGetStatus_frame (args : List Byte) :
    ((cmdGetStatus args s).state).variant = s.variant ∧ ((cmdGetStatus args s).state).pins = s.pins ∧
    ((cmdGetStatus args s).state).params = s.params ∧ ((cmdGetStatus args s).state).hlr = s.hlr ∧
    ((cmdGetStatus args s).state).ant = s.ant ∧ ((cmdGetStatus args s).state).emq = s.emq ∧
    ((cmdGetStatus args s).state).eca = s.eca ∧ ((cmdGetStatus args s).state).ptf = s.ptf ∧
    ((cmdGetStatus args s).state).tbs = s.tbs ∧ ((cmdGetStatus args s).state).exu = s.exu ∧
    ((cmdGetStatus args s).state).tru = s.tru ∧ ((cmdGetStatus args s).state).rlf = s.rlf ∧
    ((cmdGetStatus args s).state).flags = s.flags ∧ ((cmdGetStatus args s).state).cmi = s.cmi ∧
    ((cmdGetStatus args s).state).freeCount = s.freeCount ∧ ((cmdGetStatus args s).state).pending = s.pending := by
  unfold cmdGetStatus Reply.ofLength
  split <;> simp [State.accept, State.refuse]

/-- What ReadEvents can change. -/
@[simp] theorem cmdReadEvents_frame (args : List Byte) :
    ((cmdReadEvents args s).state).variant = s.variant ∧ ((cmdReadEvents args s).state).pins = s.pins ∧
    ((cmdReadEvents args s).state).params = s.params ∧ ((cmdReadEvents args s).state).hlr = s.hlr ∧
    ((cmdReadEvents args s).state).ant = s.ant ∧ ((cmdReadEvents args s).state).emq = s.emq ∧
    ((cmdReadEvents args s).state).eca = s.eca ∧ ((cmdReadEvents args s).state).ptf = s.ptf ∧
    ((cmdReadEvents args s).state).tbs = s.tbs ∧ ((cmdReadEvents args s).state).exu = s.exu ∧
    ((cmdReadEvents args s).state).tru = s.tru ∧ ((cmdReadEvents args s).state).rlf = s.rlf ∧
    ((cmdReadEvents args s).state).cmi = s.cmi ∧ ((cmdReadEvents args s).state).freeCount = s.freeCount ∧
    ((cmdReadEvents args s).state).pending = s.pending := by
  unfold cmdReadEvents Reply.ofLength
  repeat' split
  all_goals simp [State.accept, State.refuse]

/-- What ClearEvents can change. -/
@[simp] theorem cmdClearEvents_frame (args : List Byte) :
    ((cmdClearEvents args s).state).variant = s.variant ∧ ((cmdClearEvents args s).state).pins = s.pins ∧
    ((cmdClearEvents args s).state).params = s.params ∧ ((cmdClearEvents args s).state).hlr = s.hlr ∧
    ((cmdClearEvents args s).state).ant = s.ant ∧ ((cmdClearEvents args s).state).emq = s.emq ∧
    ((cmdClearEvents args s).state).eca = s.eca ∧ ((cmdClearEvents args s).state).ptf = s.ptf ∧
    ((cmdClearEvents args s).state).tbs = s.tbs ∧ ((cmdClearEvents args s).state).exu = s.exu ∧
    ((cmdClearEvents args s).state).tru = s.tru ∧ ((cmdClearEvents args s).state).rlf = s.rlf ∧
    ((cmdClearEvents args s).state).cmi = s.cmi ∧ ((cmdClearEvents args s).state).freeCount = s.freeCount ∧
    ((cmdClearEvents args s).state).pending = s.pending := by
  unfold cmdClearEvents Reply.ofLength
  repeat' split
  all_goals simp [State.accept, State.refuse]

/-- What SetParam can change. -/
@[simp] theorem cmdSetParam_frame (args : List Byte) :
    ((cmdSetParam args s).state).variant = s.variant ∧ ((cmdSetParam args s).state).pins = s.pins ∧
    ((cmdSetParam args s).state).hlr = s.hlr ∧ ((cmdSetParam args s).state).emq = s.emq ∧
    ((cmdSetParam args s).state).eca = s.eca ∧ ((cmdSetParam args s).state).ptf = s.ptf ∧
    ((cmdSetParam args s).state).tbs = s.tbs ∧ ((cmdSetParam args s).state).exu = s.exu ∧
    ((cmdSetParam args s).state).tru = s.tru ∧ ((cmdSetParam args s).state).rlf = s.rlf ∧
    ((cmdSetParam args s).state).flags = s.flags ∧ ((cmdSetParam args s).state).cmi = s.cmi ∧
    ((cmdSetParam args s).state).freeCount = s.freeCount ∧ ((cmdSetParam args s).state).pending = s.pending := by
  unfold cmdSetParam Reply.ofLength
  dsimp only
  repeat' split
  all_goals simp [State.accept, State.refuse, State.writeParams]

/-- What GetParam can change. -/
@[simp] theorem cmdGetParam_frame (args : List Byte) :
    ((cmdGetParam args s).state).variant = s.variant ∧ ((cmdGetParam args s).state).pins = s.pins ∧
    ((cmdGetParam args s).state).params = s.params ∧ ((cmdGetParam args s).state).hlr = s.hlr ∧
    ((cmdGetParam args s).state).ant = s.ant ∧ ((cmdGetParam args s).state).emq = s.emq ∧
    ((cmdGetParam args s).state).eca = s.eca ∧ ((cmdGetParam args s).state).ptf = s.ptf ∧
    ((cmdGetParam args s).state).tbs = s.tbs ∧ ((cmdGetParam args s).state).exu = s.exu ∧
    ((cmdGetParam args s).state).tru = s.tru ∧ ((cmdGetParam args s).state).rlf = s.rlf ∧
    ((cmdGetParam args s).state).flags = s.flags ∧ ((cmdGetParam args s).state).cmi = s.cmi ∧
    ((cmdGetParam args s).state).freeCount = s.freeCount ∧ ((cmdGetParam args s).state).pending = s.pending := by
  unfold cmdGetParam Reply.ofLength
  dsimp only
  repeat' split
  all_goals simp [State.accept, State.refuse]

/-- What TableWrite can change. -/
@[simp] theorem cmdTableWrite_frame (args : List Byte) :
    ((cmdTableWrite args s).state).variant = s.variant ∧ ((cmdTableWrite args s).state).pins = s.pins ∧
    ((cmdTableWrite args s).state).params = s.params ∧ ((cmdTableWrite args s).state).hlr = s.hlr ∧
    ((cmdTableWrite args s).state).ant = s.ant ∧ ((cmdTableWrite args s).state).emq = s.emq ∧
    ((cmdTableWrite args s).state).eca = s.eca ∧ ((cmdTableWrite args s).state).ptf = s.ptf ∧
    ((cmdTableWrite args s).state).exu = s.exu ∧ ((cmdTableWrite args s).state).tru = s.tru ∧
    ((cmdTableWrite args s).state).rlf = s.rlf ∧ ((cmdTableWrite args s).state).flags = s.flags ∧
    ((cmdTableWrite args s).state).cmi = s.cmi ∧ ((cmdTableWrite args s).state).freeCount = s.freeCount ∧
    ((cmdTableWrite args s).state).pending = s.pending := by
  unfold cmdTableWrite State.writeTable
  dsimp only
  repeat' split
  all_goals simp [State.accept, State.refuse]

/-- What TableCommit can change. -/
@[simp] theorem cmdTableCommit_frame (args : List Byte) :
    ((cmdTableCommit args s).state).variant = s.variant ∧ ((cmdTableCommit args s).state).pins = s.pins ∧
    ((cmdTableCommit args s).state).params = s.params ∧ ((cmdTableCommit args s).state).hlr = s.hlr ∧
    ((cmdTableCommit args s).state).ant = s.ant ∧ ((cmdTableCommit args s).state).emq = s.emq ∧
    ((cmdTableCommit args s).state).eca = s.eca ∧ ((cmdTableCommit args s).state).ptf = s.ptf ∧
    ((cmdTableCommit args s).state).tru = s.tru ∧ ((cmdTableCommit args s).state).rlf = s.rlf ∧
    ((cmdTableCommit args s).state).freeCount = s.freeCount ∧ ((cmdTableCommit args s).state).pending = s.pending := by
  unfold cmdTableCommit Reply.ofLength State.commitTable State.takeCommit
  dsimp only
  repeat' split
  all_goals simp [State.accept, State.refuse]

/-- What TableCancel can change. -/
@[simp] theorem cmdTableCancel_frame (args : List Byte) :
    ((cmdTableCancel args s).state).variant = s.variant ∧ ((cmdTableCancel args s).state).pins = s.pins ∧
    ((cmdTableCancel args s).state).params = s.params ∧ ((cmdTableCancel args s).state).hlr = s.hlr ∧
    ((cmdTableCancel args s).state).ant = s.ant ∧ ((cmdTableCancel args s).state).emq = s.emq ∧
    ((cmdTableCancel args s).state).eca = s.eca ∧ ((cmdTableCancel args s).state).ptf = s.ptf ∧
    ((cmdTableCancel args s).state).exu = s.exu ∧ ((cmdTableCancel args s).state).tru = s.tru ∧
    ((cmdTableCancel args s).state).rlf = s.rlf ∧ ((cmdTableCancel args s).state).flags = s.flags ∧
    ((cmdTableCancel args s).state).cmi = s.cmi ∧ ((cmdTableCancel args s).state).freeCount = s.freeCount ∧
    ((cmdTableCancel args s).state).pending = s.pending := by
  unfold cmdTableCancel Reply.ofLength State.cancelTable
  repeat' split
  all_goals simp [State.accept, State.refuse]

/-- What TableState can change. -/
@[simp] theorem cmdTableState_frame (args : List Byte) :
    ((cmdTableState args s).state).variant = s.variant ∧ ((cmdTableState args s).state).pins = s.pins ∧
    ((cmdTableState args s).state).params = s.params ∧ ((cmdTableState args s).state).hlr = s.hlr ∧
    ((cmdTableState args s).state).ant = s.ant ∧ ((cmdTableState args s).state).emq = s.emq ∧
    ((cmdTableState args s).state).eca = s.eca ∧ ((cmdTableState args s).state).ptf = s.ptf ∧
    ((cmdTableState args s).state).tbs = s.tbs ∧ ((cmdTableState args s).state).exu = s.exu ∧
    ((cmdTableState args s).state).tru = s.tru ∧ ((cmdTableState args s).state).rlf = s.rlf ∧
    ((cmdTableState args s).state).flags = s.flags ∧ ((cmdTableState args s).state).cmi = s.cmi ∧
    ((cmdTableState args s).state).freeCount = s.freeCount ∧ ((cmdTableState args s).state).pending = s.pending := by
  unfold cmdTableState Reply.ofLength
  split <;> simp [State.accept, State.refuse]

/-- What SetProtect can change. -/
@[simp] theorem cmdSetProtect_frame (args : List Byte) :
    ((cmdSetProtect args s).state).variant = s.variant ∧ ((cmdSetProtect args s).state).pins = s.pins ∧
    ((cmdSetProtect args s).state).params = s.params ∧ ((cmdSetProtect args s).state).hlr = s.hlr ∧
    ((cmdSetProtect args s).state).ant = s.ant ∧ ((cmdSetProtect args s).state).emq = s.emq ∧
    ((cmdSetProtect args s).state).eca = s.eca ∧ ((cmdSetProtect args s).state).ptf = s.ptf ∧
    ((cmdSetProtect args s).state).exu = s.exu ∧ ((cmdSetProtect args s).state).tru = s.tru ∧
    ((cmdSetProtect args s).state).rlf = s.rlf ∧ ((cmdSetProtect args s).state).flags = s.flags ∧
    ((cmdSetProtect args s).state).cmi = s.cmi ∧ ((cmdSetProtect args s).state).freeCount = s.freeCount ∧
    ((cmdSetProtect args s).state).pending = s.pending := by
  unfold cmdSetProtect Reply.ofLength
  repeat' split
  all_goals simp [State.accept, State.refuse]

/-- What Start can change. -/
@[simp] theorem cmdStart_frame (args : List Byte) :
    ((cmdStart args s).state).variant = s.variant ∧ ((cmdStart args s).state).pins = s.pins ∧
    ((cmdStart args s).state).params = s.params ∧ ((cmdStart args s).state).hlr = s.hlr ∧
    ((cmdStart args s).state).ant = s.ant ∧ ((cmdStart args s).state).eca = s.eca ∧
    ((cmdStart args s).state).ptf = s.ptf ∧ ((cmdStart args s).state).tbs = s.tbs ∧
    ((cmdStart args s).state).tru = s.tru ∧ ((cmdStart args s).state).rlf = s.rlf ∧
    ((cmdStart args s).state).cmi = s.cmi ∧ ((cmdStart args s).state).freeCount = s.freeCount ∧
    ((cmdStart args s).state).pending = s.pending := by
  unfold cmdStart Reply.ofLength
  repeat' split
  all_goals simp [State.accept, State.refuse]

/-- What Stop can change. -/
@[simp] theorem cmdStop_frame (args : List Byte) :
    ((cmdStop args s).state).variant = s.variant ∧ ((cmdStop args s).state).pins = s.pins ∧
    ((cmdStop args s).state).params = s.params ∧ ((cmdStop args s).state).hlr = s.hlr ∧
    ((cmdStop args s).state).ant = s.ant ∧ ((cmdStop args s).state).eca = s.eca ∧
    ((cmdStop args s).state).ptf = s.ptf ∧
    ((cmdStop args s).state).pending = s.pending := by
  unfold cmdStop Reply.ofLength
  repeat' split
  all_goals simp [State.accept, State.refuse]

/-- What Resync can change. -/
@[simp] theorem cmdResync_frame (args : List Byte) :
    ((cmdResync args s).state).variant = s.variant ∧ ((cmdResync args s).state).pins = s.pins ∧
    ((cmdResync args s).state).params = s.params ∧ ((cmdResync args s).state).hlr = s.hlr ∧
    ((cmdResync args s).state).ant = s.ant ∧ ((cmdResync args s).state).ptf = s.ptf ∧ ((cmdResync args s).state).pending = s.pending := by
  unfold cmdResync Reply.ofLength
  repeat' split
  all_goals simp [State.accept, State.refuse]

/-- What TriggerSet can change. -/
@[simp] theorem cmdTriggerSet_frame (args : List Byte) :
    ((cmdTriggerSet args s).state).variant = s.variant ∧ ((cmdTriggerSet args s).state).pins = s.pins ∧
    ((cmdTriggerSet args s).state).params = s.params ∧ ((cmdTriggerSet args s).state).hlr = s.hlr ∧
    ((cmdTriggerSet args s).state).ant = s.ant ∧ ((cmdTriggerSet args s).state).emq = s.emq ∧
    ((cmdTriggerSet args s).state).eca = s.eca ∧ ((cmdTriggerSet args s).state).ptf = s.ptf ∧
    ((cmdTriggerSet args s).state).tbs = s.tbs ∧ ((cmdTriggerSet args s).state).exu = s.exu ∧
    ((cmdTriggerSet args s).state).rlf = s.rlf ∧ ((cmdTriggerSet args s).state).flags = s.flags ∧
    ((cmdTriggerSet args s).state).cmi = s.cmi ∧ ((cmdTriggerSet args s).state).freeCount = s.freeCount ∧
    ((cmdTriggerSet args s).state).pending = s.pending := by
  unfold cmdTriggerSet Reply.ofLength
  repeat' split
  all_goals simp [State.accept, State.refuse]

/-- What TriggerArm can change. -/
@[simp] theorem cmdTriggerArm_frame (args : List Byte) :
    ((cmdTriggerArm args s).state).variant = s.variant ∧ ((cmdTriggerArm args s).state).pins = s.pins ∧
    ((cmdTriggerArm args s).state).params = s.params ∧ ((cmdTriggerArm args s).state).hlr = s.hlr ∧
    ((cmdTriggerArm args s).state).ant = s.ant ∧ ((cmdTriggerArm args s).state).emq = s.emq ∧
    ((cmdTriggerArm args s).state).eca = s.eca ∧ ((cmdTriggerArm args s).state).ptf = s.ptf ∧
    ((cmdTriggerArm args s).state).tbs = s.tbs ∧ ((cmdTriggerArm args s).state).exu = s.exu ∧
    ((cmdTriggerArm args s).state).rlf = s.rlf ∧ ((cmdTriggerArm args s).state).flags = s.flags ∧
    ((cmdTriggerArm args s).state).cmi = s.cmi ∧ ((cmdTriggerArm args s).state).freeCount = s.freeCount ∧
    ((cmdTriggerArm args s).state).pending = s.pending := by
  unfold cmdTriggerArm Reply.ofLength
  repeat' split
  all_goals simp [State.accept, State.refuse]

/-- What TriggerRead can change. -/
@[simp] theorem cmdTriggerRead_frame (args : List Byte) :
    ((cmdTriggerRead args s).state).variant = s.variant ∧ ((cmdTriggerRead args s).state).pins = s.pins ∧
    ((cmdTriggerRead args s).state).params = s.params ∧ ((cmdTriggerRead args s).state).hlr = s.hlr ∧
    ((cmdTriggerRead args s).state).ant = s.ant ∧ ((cmdTriggerRead args s).state).emq = s.emq ∧
    ((cmdTriggerRead args s).state).eca = s.eca ∧ ((cmdTriggerRead args s).state).ptf = s.ptf ∧
    ((cmdTriggerRead args s).state).tbs = s.tbs ∧ ((cmdTriggerRead args s).state).exu = s.exu ∧
    ((cmdTriggerRead args s).state).rlf = s.rlf ∧ ((cmdTriggerRead args s).state).flags = s.flags ∧
    ((cmdTriggerRead args s).state).cmi = s.cmi ∧ ((cmdTriggerRead args s).state).freeCount = s.freeCount ∧
    ((cmdTriggerRead args s).state).pending = s.pending := by
  unfold cmdTriggerRead Reply.ofLength
  repeat' split
  all_goals simp [State.accept, State.refuse]

/-- What CaptureRead can change. -/
@[simp] theorem cmdCaptureRead_frame (args : List Byte) :
    ((cmdCaptureRead args s).state).variant = s.variant ∧ ((cmdCaptureRead args s).state).pins = s.pins ∧
    ((cmdCaptureRead args s).state).params = s.params ∧ ((cmdCaptureRead args s).state).hlr = s.hlr ∧
    ((cmdCaptureRead args s).state).ant = s.ant ∧ ((cmdCaptureRead args s).state).emq = s.emq ∧
    ((cmdCaptureRead args s).state).eca = s.eca ∧ ((cmdCaptureRead args s).state).ptf = s.ptf ∧
    ((cmdCaptureRead args s).state).tbs = s.tbs ∧ ((cmdCaptureRead args s).state).exu = s.exu ∧
    ((cmdCaptureRead args s).state).rlf = s.rlf ∧ ((cmdCaptureRead args s).state).flags = s.flags ∧
    ((cmdCaptureRead args s).state).cmi = s.cmi ∧ ((cmdCaptureRead args s).state).freeCount = s.freeCount ∧
    ((cmdCaptureRead args s).state).pending = s.pending := by
  unfold cmdCaptureRead Reply.ofLength
  repeat' split
  all_goals simp [State.accept, State.refuse]

/-- R198: what a soft reset keeps. -/
@[simp] theorem State.softReset_kept :
    s.softReset.variant = s.variant ∧ s.softReset.params = s.params ∧ s.softReset.freeCount = s.freeCount ∧
      s.softReset.pending = s.pending ∧ s.softReset.pins = { s.pins with camTrig := false } := by
  simp [State.softReset]

/-- R16: what a line reset keeps. -/
@[simp] theorem State.lineReset_kept :
    s.lineReset.variant = s.variant ∧ s.lineReset.freeCount = s.freeCount ∧ s.lineReset.pending = s.pending ∧
      s.lineReset.pins = { s.pins with resetHeld := true, camTrig := false } := by
  simp [State.lineReset]

/-- R188: sending an answer changes the framer alone. -/
@[simp] theorem Reply.send_frame (r : Reply) (c : Command) :
    (r.send c).variant = r.state.variant ∧ (r.send c).pins = r.state.pins ∧ (r.send c).params = r.state.params ∧
      (r.send c).hlr = r.state.hlr ∧ (r.send c).ant = r.state.ant ∧ (r.send c).emq = r.state.emq ∧
      (r.send c).eca = r.state.eca ∧ (r.send c).ptf = r.state.ptf ∧ (r.send c).tbs = r.state.tbs ∧
      (r.send c).exu = r.state.exu ∧ (r.send c).tru = r.state.tru ∧ (r.send c).flags = r.state.flags ∧
      (r.send c).cmi = r.state.cmi ∧ (r.send c).freeCount = r.state.freeCount ∧
      (r.send c).pending = r.state.pending := by
  simp [Reply.send]

/-- R187: every command is one of those of section 11.4 or names none. -/
theorem replyTo_cases (c : Command) (P : Reply → Prop)
    (h1 : P (cmdIdentify c.args s)) (h2 : P (cmdGetStatus c.args s)) (h3 : P (cmdReadEvents c.args s))
    (h4 : P (cmdClearEvents c.args s)) (h5 : P (cmdSetParam c.args s)) (h6 : P (cmdGetParam c.args s))
    (h7 : P (cmdTableWrite c.args s)) (h9 : P (cmdTableCommit c.args s)) (h10 : P (cmdTableCancel c.args s))
    (h11 : P (cmdTableState c.args s)) (h12 : P (cmdSetProtect c.args s)) (h13 : P (cmdStart c.args s))
    (h14 : P (cmdStop c.args s)) (h15 : P (cmdResync c.args s)) (h16 : P (cmdTriggerSet c.args s))
    (h17 : P (cmdTriggerArm c.args s)) (h18 : P (cmdTriggerRead c.args s)) (h19 : P (cmdCaptureRead c.args s))
    (h20 : P (cmdReset c.args s)) (h0 : P (s.refuse .unknownCommand)) : P (replyTo c s) := by
  unfold replyTo
  split <;> assumption

/-- R184: a taken command is a TABLE_READ in execution from now on, or has been answered. -/
theorem State.takeCommand_cases (c : Command) :
    (∃ r, readRequest s c.tag c.args = .ok r ∧ c.code = tableReadCode ∧
        s.takeCommand c = s.onCmi fun m => { m with reading := some r }) ∨
      (∃ e, readRequest s c.tag c.args = .error e ∧ c.code = tableReadCode ∧ s.takeCommand c = (s.refuse e).send c) ∨
      (c.code ≠ tableReadCode ∧ s.takeCommand c = (replyTo c s).send c) := by
  unfold State.takeCommand State.takeRead
  by_cases h : c.code = tableReadCode
  · cases hr : readRequest s c.tag c.args with
    | ok r => left; exact ⟨r, rfl, h, by simp [h]⟩
    | error e => right; left; exact ⟨e, rfl, h, by simp [h]⟩
  · right; right; exact ⟨h, by simp [h]⟩

/-- R120: a read that passes its checks asks for 1..32 fetches and has made none. -/
theorem readRequest_ok {tag : Byte} {args : List Byte} {r : Reading} (h : readRequest s tag args = .ok r) :
    r.done = 0 ∧ 1 ≤ r.count ∧ r.count ≤ 32 ∧ r.entries = [] ∧ r.split = false ∧ r.tag = tag := by
  unfold readRequest at h
  repeat' split at h
  all_goals first | (cases h; done) | skip
  cases h
  simp only [true_and, and_true]
  omega

/-- R184, R185, R186: the three ways of a delivered command. -/
theorem State.deliverCommand_cases (c : Command) :
    (s.cmi.reading = none ∧ s.cmi.queue = [] ∧ s.deliverCommand c = s.takeCommand c) ∨
      ((s.cmi.reading.isSome = true ∨ s.cmi.queue ≠ []) ∧ s.cmi.queue.length < Config.commandCapacity ∧
        s.deliverCommand c = s.onCmi fun m => { m with queue := m.queue ++ [c] }) ∨
      ((s.cmi.reading.isSome = true ∨ s.cmi.queue ≠ []) ∧ Config.commandCapacity ≤ s.cmi.queue.length ∧
        s.deliverCommand c = (s.refuse .busy).send c) := by
  unfold State.deliverCommand
  by_cases hq : s.cmi.queue.length < Config.commandCapacity
  · cases hr : s.cmi.reading <;> cases hl : s.cmi.queue <;> simp_all
  · cases hr : s.cmi.reading <;> cases hl : s.cmi.queue <;> simp_all

/-- R121: a read whose last fetch has been granted is answered; any other waits. -/
theorem State.answerRead_cases :
    (∃ r, s.cmi.reading = some r ∧ r.count ≤ r.done ∧
        s.answerRead = (s.onCmi fun c => { c with reading := none }).offerAnswer r.answer) ∨
      ((s.cmi.reading = none ∨ ∃ r, s.cmi.reading = some r ∧ r.done < r.count) ∧ s.answerRead = s) := by
  unfold State.answerRead
  cases hr : s.cmi.reading with
  | none => right; simp
  | some r =>
    by_cases hd : r.count ≤ r.done
    · left; exact ⟨r, rfl, hd, by simp [hd]⟩
    · right; exact ⟨Or.inr ⟨r, rfl, by omega⟩, by simp [hd]⟩

/-- R186: with no read in execution and commands queued, a free number of them is taken; otherwise none. -/
theorem State.takeQueued_cases :
    (s.cmi.reading = none ∧ s.cmi.queue ≠ [] ∧ ∃ n, s.takeQueued = drainCommands n s.drawFree) ∨
      ((s.cmi.reading.isSome = true ∨ s.cmi.queue = []) ∧ s.takeQueued = s) := by
  unfold State.takeQueued
  cases hr : s.cmi.reading <;> cases hl : s.cmi.queue <;> simp
  exact ⟨_, rfl⟩

/-- With no read in execution and no command queued there is nothing to settle. -/
theorem State.settleRead_of_none (h : s.cmi.reading = none) (hq : s.cmi.queue = []) : s.settleRead = s := by
  simp [State.settleRead, State.answerRead, State.takeQueued, h, hq]

/-- A read with a fetch to make goes on: there is nothing to settle. -/
theorem State.settleRead_of_reading {r : Reading} (h : s.cmi.reading = some r) (hd : r.done < r.count) :
    s.settleRead = s := by
  have : ¬r.count ≤ r.done := by omega
  simp [State.settleRead, State.answerRead, State.takeQueued, h, this]

end Sys2Proof.Machine
end

