-- ==== Sys2Proof/Laws/Echo.lean ====
section
/-! SUPPORT. What each operation of the Echo Assigner can change, and its equations. -/

namespace Sys2Proof.Machine

variable (s : State)

/-- Placement changes one pulse, the pool and the flags (R65, R66). -/
@[simp] theorem State.placeEcho_frame (a : Acceptable) (amp : BitVec 12) (w : BitVec 10) :
    (s.placeEcho a amp w).variant = s.variant ∧ (s.placeEcho a amp w).pins = s.pins ∧
    (s.placeEcho a amp w).params = s.params ∧ (s.placeEcho a amp w).hlr = s.hlr ∧ (s.placeEcho a amp w).ant = s.ant ∧
    (s.placeEcho a amp w).ptf = s.ptf ∧ (s.placeEcho a amp w).tbs = s.tbs ∧ (s.placeEcho a amp w).exu = s.exu ∧
    (s.placeEcho a amp w).tru = s.tru ∧ (s.placeEcho a amp w).rlf = s.rlf ∧ (s.placeEcho a amp w).cmi = s.cmi ∧
    (s.placeEcho a amp w).freeCount = s.freeCount ∧ (s.placeEcho a amp w).pending = s.pending := by
  unfold State.placeEcho; dsimp only; repeat' split
  all_goals simp

/-- An assignment changes one pulse, the pool, the Zone Track, the flags and the read port (R63, R65). -/
@[simp] theorem State.assignEcho_frame (a : Acceptable) (amp : BitVec 12) (w : BitVec 10) :
    (s.assignEcho a amp w).variant = s.variant ∧ (s.assignEcho a amp w).pins = s.pins ∧
    (s.assignEcho a amp w).params = s.params ∧ (s.assignEcho a amp w).hlr = s.hlr ∧
    (s.assignEcho a amp w).ant = s.ant ∧ (s.assignEcho a amp w).ptf = s.ptf ∧ (s.assignEcho a amp w).exu = s.exu ∧
    (s.assignEcho a amp w).tru = s.tru ∧ (s.assignEcho a amp w).rlf = s.rlf ∧ (s.assignEcho a amp w).pending = s.pending := by
  simp [State.assignEcho]

/-- An echo changes one pulse, the Echo Assigner, the flags and the read port (R61, R62). -/
@[simp] theorem State.decideEcho_frame (te : Timestamp) (amp : BitVec 12) (w : BitVec 10) :
    (s.decideEcho te amp w).variant = s.variant ∧ (s.decideEcho te amp w).pins = s.pins ∧
    (s.decideEcho te amp w).params = s.params ∧ (s.decideEcho te amp w).hlr = s.hlr ∧
    (s.decideEcho te amp w).ant = s.ant ∧ (s.decideEcho te amp w).ptf = s.ptf ∧ (s.decideEcho te amp w).exu = s.exu ∧
    (s.decideEcho te amp w).tru = s.tru ∧ (s.decideEcho te amp w).rlf = s.rlf ∧ (s.decideEcho te amp w).pending = s.pending := by
  unfold State.decideEcho; split
  · simp
  · simp
  · dsimp only; split <;> simp

/-- An echo changes one pulse, the Echo Assigner, the flags and the read port (R56). -/
@[simp] theorem State.handleEcho_frame (te : Timestamp) (amp : BitVec 12) (w : BitVec 10) :
    (s.handleEcho te amp w).variant = s.variant ∧ (s.handleEcho te amp w).pins = s.pins ∧
    (s.handleEcho te amp w).params = s.params ∧ (s.handleEcho te amp w).hlr = s.hlr ∧
    (s.handleEcho te amp w).ant = s.ant ∧ (s.handleEcho te amp w).ptf = s.ptf ∧ (s.handleEcho te amp w).exu = s.exu ∧
    (s.handleEcho te amp w).tru = s.tru ∧ (s.handleEcho te amp w).rlf = s.rlf ∧ (s.handleEcho te amp w).pending = s.pending := by
  unfold State.handleEcho; split <;> simp

/-! ### Equations -/

/-- R65: an insertion adds one entry. -/
@[simp] theorem insertEcho_length (x : EchoEntry) (l : List EchoEntry) : (insertEcho x l).length = l.length + 1 := by
  induction l with
  | nil => rfl
  | cons y rest ih => unfold insertEcho; split <;> simp [ih]

/-- R65: the entries of the list after an insertion. -/
@[simp] theorem mem_insertEcho (x y : EchoEntry) (l : List EchoEntry) : y ∈ insertEcho x l ↔ y = x ∨ y ∈ l := by
  induction l with
  | nil => simp [insertEcho]
  | cons z rest ih =>
    unfold insertEcho
    split
    · simp [ih]; tauto
    · simp

/-- R65, R66: the three outcomes of a placement. -/
theorem Pulse.place_cases (p : Pulse) (free maxEchoes : Nat) (x : EchoEntry) :
    (free = 0 ∧ p.place free maxEchoes x = ({ p with echoOverflow := true }, false, true)) ∨
      (0 < free ∧ p.echoes.length < maxEchoes ∧
        p.place free maxEchoes x = ({ p with echoes := insertEcho x p.echoes }, true, false)) ∨
      (0 < free ∧ maxEchoes ≤ p.echoes.length ∧
        p.place free maxEchoes x =
          ({ p with echoes := (insertEcho x p.echoes).dropLast, echoOverflow := true }, false, true)) := by
  unfold Pulse.place
  by_cases h0 : free = 0
  · simp [h0]
  · by_cases hm : maxEchoes < (insertEcho x p.echoes).length
    · right; right
      rw [insertEcho_length] at hm
      refine ⟨by omega, by omega, ?_⟩
      simp [h0]; omega
    · right; left
      rw [insertEcho_length] at hm
      refine ⟨by omega, by omega, ?_⟩
      simp [h0]; omega

/-- R65: placement leaves every field of the pulse but its echoes and ECHO_OVERFLOW. -/
theorem Pulse.place_fixed (p : Pulse) (free maxEchoes : Nat) (x : EchoEntry) :
    ∃ es o, (p.place free maxEchoes x).1 = { p with echoes := es, echoOverflow := o } := by
  rcases p.place_cases free maxEchoes x with ⟨_, h⟩ | ⟨_, _, h⟩ | ⟨_, _, h⟩ <;> rw [h] <;> exact ⟨_, _, rfl⟩

/-- R57, R58: a candidate stands at its place in the queue. -/
theorem State.candidates_mem {te : Timestamp} {c : Candidate} (h : c ∈ s.candidates te) :
    s.emq.queue[c.place]? = some c.pulse ∧ s.isCandidate te c.pulse = true := by
  unfold State.candidates at h
  simp only [List.mem_map] at h
  obtain ⟨⟨⟨p, i⟩, k⟩, hx, rfl⟩ := h
  have h1 := (List.mem_zipIdx hx).2.2
  have h2 : (p, i) ∈ (s.emq.queue.zipIdx.filter fun x => s.isCandidate te x.1) := by
    rw [← List.mem_reverse, h1]; exact List.getElem_mem _
  rw [List.mem_filter] at h2
  refine ⟨?_, h2.2⟩
  have h3 := List.mem_zipIdx h2.1
  simp only [Nat.zero_add, Nat.sub_zero] at h3
  rw [h3.2.2, List.getElem?_eq_getElem]

/-- R60: what an acceptable candidate has passed. -/
theorem State.acceptable?_some {te : Timestamp} {amp : Nat} {c : Candidate} {a : Acceptable}
    (h : s.acceptable? te amp c = some a) :
    a.cand = c ∧ rangeOf (s.bankFor c.pulse) te c.pulse.tFire amp = some a.range ∧
      inGlobalWindow (s.bankFor c.pulse) a.range = true ∧
      inSectorWindow (sectorEntry (s.bankFor c.pulse) c.pulse) a.range = true ∧
      c.zone ≤ (sectorEntry (s.bankFor c.pulse) c.pulse).maxZone := by
  unfold State.acceptable? at h
  dsimp only at h
  split at h
  · cases h
  · rename_i r hr
    split at h
    · rename_i hc
      simp only [Bool.and_eq_true, decide_eq_true_eq] at hc
      cases h
      exact ⟨rfl, hr, hc.1.1, hc.1.2, hc.2⟩
    · cases h

/-- R60: every acceptable candidate is a candidate that passed the tests. -/
theorem State.acceptables_mem {te : Timestamp} {amp : Nat} {a : Acceptable} (h : a ∈ s.acceptables te amp) :
    a.cand ∈ s.candidates te ∧ s.acceptable? te amp a.cand = some a := by
  unfold State.acceptables at h
  rw [List.mem_filterMap] at h
  obtain ⟨c, hc, ha⟩ := h
  have := (s.acceptable?_some ha).1
  subst this
  exact ⟨hc, ha⟩

/-- R62: a resolved candidate is one of the acceptable ones. -/
theorem State.resolve_mem {y : Acceptable} {rest : List Acceptable} {a : Acceptable} (h : s.resolve y rest = some a) :
    a ∈ y :: rest := by
  unfold State.resolve at h
  split at h
  · cases h; simp
  · cases h
    cases hl : (y :: rest).getLast? with
    | none => simp
    | some z => simpa using List.mem_of_getLast? hl
  · cases h
    cases hf : (y :: rest).find? s.tracked with
    | none => simp
    | some z => simpa using List.mem_of_find?_eq_some hf
  · cases h

/-- R61, R62: the four outcomes of an echo before placement. -/
theorem State.decideEcho_cases (te : Timestamp) (amp : BitVec 12) (w : BitVec 10) :
    (s.acceptables te amp.toNat = [] ∧
        s.decideEcho te amp w = (s.onEca fun e => { e with orphans := e.orphans + 1 }).raise .echoOrphan) ∨
      (∃ a, s.acceptables te amp.toNat = [a] ∧ s.decideEcho te amp w = s.assignEcho a amp w) ∨
      (∃ a b rest c, s.acceptables te amp.toNat = a :: b :: rest ∧
        (s.onEca fun e => { e with ambiguous := e.ambiguous + 1 }).resolve a (b :: rest) = some c ∧
        s.decideEcho te amp w = (s.onEca fun e => { e with ambiguous := e.ambiguous + 1 }).assignEcho c amp w) ∨
      (∃ a b rest, s.acceptables te amp.toNat = a :: b :: rest ∧
        (s.onEca fun e => { e with ambiguous := e.ambiguous + 1 }).resolve a (b :: rest) = none ∧
        s.decideEcho te amp w =
          (s.onEca fun e => { e with ambiguous := e.ambiguous + 1 }).raise .echoAmbiguous) := by
  unfold State.decideEcho
  split
  · rename_i h; left; exact ⟨h, rfl⟩
  · rename_i a h; right; left; exact ⟨a, h, rfl⟩
  · rename_i a b rest h
    right; right
    dsimp only
    split
    · rename_i c hc; left; exact ⟨a, b, rest, c, h, hc, rfl⟩
    · rename_i hc; right; exact ⟨a, b, rest, h, hc, rfl⟩

end Sys2Proof.Machine
end

