-- ==== Sys2Proof/Laws/Exposures.lean ====
section
/-! SUPPORT. What each operation of the Exposure Unit can change, and its equations. -/

namespace Sys2Proof.Machine

variable (s : State)

/-- A seek changes the plan pointer and the read port (R131). -/
@[simp] theorem State.seekPlan_frame (lead : Azimuth) :
    (s.seekPlan lead).variant = s.variant ∧ (s.seekPlan lead).pins = s.pins ∧ (s.seekPlan lead).params = s.params ∧
    (s.seekPlan lead).hlr = s.hlr ∧ (s.seekPlan lead).ant = s.ant ∧ (s.seekPlan lead).emq = s.emq ∧
    (s.seekPlan lead).eca = s.eca ∧ (s.seekPlan lead).ptf = s.ptf ∧ (s.seekPlan lead).tru = s.tru ∧
    (s.seekPlan lead).rlf = s.rlf ∧ (s.seekPlan lead).flags = s.flags ∧
    (s.seekPlan lead).pending = s.pending := by
  unfold State.seekPlan; dsimp only; split <;> simp

/-- An exposure changes the unit, CAM_TRIG, the framer, the flags and the read port (R133). -/
@[simp] theorem State.makeExposure_frame (i : Nat) (v : PulseView) :
    (s.makeExposure i v).variant = s.variant ∧ (s.makeExposure i v).params = s.params ∧
    (s.makeExposure i v).hlr = s.hlr ∧ (s.makeExposure i v).ant = s.ant ∧ (s.makeExposure i v).emq = s.emq ∧
    (s.makeExposure i v).eca = s.eca ∧ (s.makeExposure i v).ptf = s.ptf ∧ (s.makeExposure i v).tru = s.tru ∧ (s.makeExposure i v).pending = s.pending := by
  simp [State.makeExposure]

/-- The compare changes what exposures change (R132). -/
@[simp] theorem compareTargets_frame (prev lead : Azimuth) (v : PulseView) (n : Nat) (first : Bool) (s : State) :
    (compareTargets prev lead v n first s).variant = s.variant ∧
    (compareTargets prev lead v n first s).params = s.params ∧ (compareTargets prev lead v n first s).hlr = s.hlr ∧
    (compareTargets prev lead v n first s).ant = s.ant ∧ (compareTargets prev lead v n first s).emq = s.emq ∧
    (compareTargets prev lead v n first s).eca = s.eca ∧ (compareTargets prev lead v n first s).ptf = s.ptf ∧
    (compareTargets prev lead v n first s).tru = s.tru ∧
    (compareTargets prev lead v n first s).pending = s.pending := by
  induction n generalizing s first with
  | zero => simp [compareTargets]
  | succ n ih =>
    unfold compareTargets
    split
    · simp
    · dsimp only
      split
      · rename_i i _ _
        split
        · have h := ih false ((s.pipelineRequest.makeExposure i v).onExu fun x => { x with
            pointer := nextEnabled (s.pipelineRequest.makeExposure i v).tbs.bankActive.exposurePlan i })
          simp only [State.onExu_variant, State.onExu_params, State.onExu_hlr, State.onExu_ant, State.onExu_emq,
            State.onExu_eca, State.onExu_ptf, State.onExu_tru, State.onExu_pending,
            State.makeExposure_frame, State.pipelineRequest_frame] at h
          exact h
        · have h := ih false ((s.pipelineRequest.raise .exposureMissed).onExu fun x => { x with
            pointer := nextEnabled (s.pipelineRequest.raise .exposureMissed).tbs.bankActive.exposurePlan i })
          simp only [State.onExu_variant, State.onExu_params, State.onExu_hlr, State.onExu_ant, State.onExu_emq,
            State.onExu_eca, State.onExu_ptf, State.onExu_tru, State.onExu_pending,
            State.raise_variant, State.raise_params, State.raise_hlr, State.raise_ant, State.raise_emq,
            State.raise_eca, State.raise_ptf, State.raise_tru, State.raise_pending,
            State.pipelineRequest_frame] at h
          exact h
      · simp

/-- The compare changes what exposures change (R132). -/
@[simp] theorem State.comparePlan_frame (lead : Azimuth) (v : PulseView) :
    (s.comparePlan lead v).variant = s.variant ∧ (s.comparePlan lead v).params = s.params ∧
    (s.comparePlan lead v).hlr = s.hlr ∧ (s.comparePlan lead v).ant = s.ant ∧ (s.comparePlan lead v).emq = s.emq ∧
    (s.comparePlan lead v).eca = s.eca ∧ (s.comparePlan lead v).ptf = s.ptf ∧ (s.comparePlan lead v).tru = s.tru ∧ (s.comparePlan lead v).pending = s.pending := by
  unfold State.comparePlan; split <;> simp

/-- The reports of timeouts change the framer and the flags (R142). -/
@[simp] theorem reportTimeouts_frame (rs : List Exposure) (s : State) :
    (reportTimeouts rs s).variant = s.variant ∧ (reportTimeouts rs s).pins = s.pins ∧
    (reportTimeouts rs s).params = s.params ∧ (reportTimeouts rs s).hlr = s.hlr ∧ (reportTimeouts rs s).ant = s.ant ∧
    (reportTimeouts rs s).emq = s.emq ∧ (reportTimeouts rs s).eca = s.eca ∧ (reportTimeouts rs s).ptf = s.ptf ∧
    (reportTimeouts rs s).tbs = s.tbs ∧ (reportTimeouts rs s).exu = s.exu ∧ (reportTimeouts rs s).tru = s.tru ∧
    (reportTimeouts rs s).cmi = s.cmi ∧ (reportTimeouts rs s).freeCount = s.freeCount ∧
    (reportTimeouts rs s).pending = s.pending := by
  induction rs generalizing s with
  | nil => simp [reportTimeouts]
  | cons r rest ih =>
    unfold reportTimeouts
    have h := ih ((s.raise .tileTimeout).offer (r.report .timeout))
    simp only [State.offer_frame, State.raise_variant, State.raise_pins, State.raise_params, State.raise_hlr,
      State.raise_ant, State.raise_emq, State.raise_eca, State.raise_ptf, State.raise_tbs, State.raise_exu,
      State.raise_tru, State.raise_cmi, State.raise_freeCount, State.raise_pending] at h
    exact h

/-- The timeout step changes the queue, the framer and the flags (R142). -/
@[simp] theorem State.timeoutStep_frame (laser : Azimuth) :
    (s.timeoutStep laser).variant = s.variant ∧ (s.timeoutStep laser).pins = s.pins ∧
    (s.timeoutStep laser).params = s.params ∧ (s.timeoutStep laser).hlr = s.hlr ∧ (s.timeoutStep laser).ant = s.ant ∧
    (s.timeoutStep laser).emq = s.emq ∧ (s.timeoutStep laser).eca = s.eca ∧ (s.timeoutStep laser).ptf = s.ptf ∧
    (s.timeoutStep laser).tbs = s.tbs ∧ (s.timeoutStep laser).tru = s.tru ∧ (s.timeoutStep laser).cmi = s.cmi ∧
    (s.timeoutStep laser).freeCount = s.freeCount ∧ (s.timeoutStep laser).pending = s.pending := by
  simp [State.timeoutStep]

/-- The retirement step changes the Tile Store alone (R143). -/
@[simp] theorem State.retireStep_frame (laser : Azimuth) :
    (s.retireStep laser).variant = s.variant ∧ (s.retireStep laser).pins = s.pins ∧
    (s.retireStep laser).params = s.params ∧ (s.retireStep laser).hlr = s.hlr ∧ (s.retireStep laser).ant = s.ant ∧
    (s.retireStep laser).emq = s.emq ∧ (s.retireStep laser).eca = s.eca ∧ (s.retireStep laser).ptf = s.ptf ∧
    (s.retireStep laser).tbs = s.tbs ∧ (s.retireStep laser).tru = s.tru ∧ (s.retireStep laser).rlf = s.rlf ∧
    (s.retireStep laser).flags = s.flags ∧ (s.retireStep laser).cmi = s.cmi ∧
    (s.retireStep laser).freeCount = s.freeCount ∧ (s.retireStep laser).pending = s.pending := by
  simp [State.retireStep]

/-- The unit's work on a pulse changes the unit, CAM_TRIG, the framer, the flags and the read port (R128). -/
@[simp] theorem State.exposureWork_frame (v : PulseView) :
    ((s.exposureWork v).1).variant = s.variant ∧ ((s.exposureWork v).1).params = s.params ∧
    ((s.exposureWork v).1).hlr = s.hlr ∧ ((s.exposureWork v).1).ant = s.ant ∧ ((s.exposureWork v).1).emq = s.emq ∧
    ((s.exposureWork v).1).eca = s.eca ∧ ((s.exposureWork v).1).ptf = s.ptf ∧ ((s.exposureWork v).1).tru = s.tru ∧ ((s.exposureWork v).1).pending = s.pending := by
  unfold State.exposureWork; dsimp only; split
  · simp [State.rememberAzimuths]
  · simp

/-- A TILE changes the unit, the framer and the flags (R137 to R141). -/
@[simp] theorem State.handleTile_frame (n : BitVec 16) (status : TileStatus) (cols rows : Nat) (cells : List Rgb) :
    (s.handleTile n status cols rows cells).variant = s.variant ∧
    (s.handleTile n status cols rows cells).pins = s.pins ∧
    (s.handleTile n status cols rows cells).params = s.params ∧ (s.handleTile n status cols rows cells).hlr = s.hlr ∧
    (s.handleTile n status cols rows cells).ant = s.ant ∧ (s.handleTile n status cols rows cells).emq = s.emq ∧
    (s.handleTile n status cols rows cells).eca = s.eca ∧ (s.handleTile n status cols rows cells).ptf = s.ptf ∧
    (s.handleTile n status cols rows cells).tbs = s.tbs ∧ (s.handleTile n status cols rows cells).tru = s.tru ∧
    (s.handleTile n status cols rows cells).cmi = s.cmi ∧
    (s.handleTile n status cols rows cells).freeCount = s.freeCount ∧
    (s.handleTile n status cols rows cells).pending = s.pending := by
  unfold State.handleTile
  repeat' split
  all_goals simp [State.tileUnmatched, State.tileFails, State.tileStored, State.tileDrops]

/-! ### Equations -/

/-- R142: the unit after the timeout step. -/
theorem State.timeoutStep_exu (laser : Azimuth) :
    (s.timeoutStep laser).exu =
      { s.exu with queue := s.exu.queue.filter fun r => !r.endsAt s.exu.prevLaser laser } := by
  simp [State.timeoutStep]

/-- R143: the unit after the retirement step. -/
theorem State.retireStep_exu (laser : Azimuth) :
    (s.retireStep laser).exu =
      { s.exu with
        tiles := s.exu.tiles.filter fun t => !crossedFrom (spanEnd t.azLo t.span) s.exu.prevLaser laser } := by
  simp [State.retireStep]

/-- R137: the awaiting record of a number stands in the queue under that number. -/
theorem Exu.awaiting_mem {x : Exu} {n : BitVec 16} {r : Exposure} (h : x.awaiting n = some r) :
    r ∈ x.queue ∧ r.number = n := by
  unfold Exu.awaiting at h
  exact ⟨List.mem_of_find?_eq_some h, by simpa using List.find?_some h⟩

/-- The banks under the seek and the compare's exposures. -/
@[simp] theorem State.makeExposure_banks (i : Nat) (v : PulseView) :
    (s.makeExposure i v).tbs.bankActive = s.tbs.bankActive ∧ (s.makeExposure i v).tbs.retiring = s.tbs.retiring ∧
      (s.makeExposure i v).tbs.staged = s.tbs.staged ∧ (s.makeExposure i v).tbs.generation = s.tbs.generation ∧
      (s.makeExposure i v).tbs.activeStatus = s.tbs.activeStatus ∧
      (s.makeExposure i v).tbs.stagedStatus = s.tbs.stagedStatus ∧
      (s.makeExposure i v).tbs.protection = s.tbs.protection := by
  simp [State.makeExposure]

/-- The seek leaves the tables but for the port's count (R148). -/
theorem State.seekPlan_tables (lead : Azimuth) : SameTables s.tbs (s.seekPlan lead).tbs := by
  unfold State.seekPlan; dsimp only
  split
  · exact State.pipelineRequests_tables _ s
  · exact SameTables.refl _

/-- An exposure leaves the tables but for the port's count (R148). -/
theorem State.makeExposure_tables (i : Nat) (v : PulseView) : SameTables s.tbs (s.makeExposure i v).tbs := by
  have h : (s.makeExposure i v).tbs = s.pipelineRequest.tbs := by simp [State.makeExposure]
  rw [h]
  exact s.pipelineRequest_tables

/-- The compare leaves the tables but for the port's count (R148). -/
theorem compareTargets_tables (prev lead : Azimuth) (v : PulseView) (n : Nat) (first : Bool) (s : State) :
    SameTables s.tbs (compareTargets prev lead v n first s).tbs := by
  induction n generalizing s first with
  | zero => exact SameTables.refl _
  | succ n ih =>
    unfold compareTargets
    split
    · exact SameTables.refl _
    · dsimp only
      split
      · refine SameTables.trans ?_ (ih _ _)
        simp only [State.onExu_tbs]
        split
        · exact (s.pipelineRequest_tables).trans (s.pipelineRequest.makeExposure_tables _ _)
        · simpa using s.pipelineRequest_tables
      · exact s.pipelineRequest_tables

theorem State.comparePlan_tables (lead : Azimuth) (v : PulseView) : SameTables s.tbs (s.comparePlan lead v).tbs := by
  unfold State.comparePlan
  split
  · exact SameTables.refl _
  · exact compareTargets_tables _ _ _ _ _ _

/-- The unit's work on a pulse leaves the tables but for the port's count (R128, R148). -/
theorem State.exposureWork_tables (v : PulseView) : SameTables s.tbs (s.exposureWork v).1.tbs := by
  unfold State.exposureWork; dsimp only
  split
  · simp only [State.rememberAzimuths, State.onExu_tbs, State.retireStep_frame, State.timeoutStep_frame]
    exact (s.seekPlan_tables _).trans ((s.seekPlan _).comparePlan_tables _ _)
  · exact SameTables.refl _

end Sys2Proof.Machine
end

