-- ==== Sys2Proof/Laws/Stream.lean ====
section
/-! SUPPORT. What the handling of timestamps, pulses and FIRE records can change. -/

namespace Sys2Proof.Machine

variable (s : State)

/-- Making room changes what an eviction changes (R46). -/
@[simp] theorem State.makeRoom_frame :
    (s.makeRoom).variant = s.variant ∧ (s.makeRoom).pins = s.pins ∧ (s.makeRoom).params = s.params ∧
    (s.makeRoom).hlr = s.hlr ∧ (s.makeRoom).ant = s.ant ∧ (s.makeRoom).pending = s.pending := by
  unfold State.makeRoom; split <;> simp

/-- An acceptance leaves the variant, the parameters, the receiver and the tracker (R46, R47). -/
@[simp] theorem State.acceptPulse_frame (t : Timestamp) (m : MirrorAngles) (az : Azimuth) :
    (s.acceptPulse t m az).variant = s.variant ∧ (s.acceptPulse t m az).params = s.params ∧
    (s.acceptPulse t m az).hlr = s.hlr ∧ (s.acceptPulse t m az).ant = s.ant ∧
    (s.acceptPulse t m az).pending = s.pending := by
  simp [State.acceptPulse]

/-- A pulse in RUNNING leaves the variant, the parameters and the tracker (R45). -/
@[simp] theorem State.judgePulse_frame (t : Timestamp) (k : Handoff) :
    (s.judgePulse t k).variant = s.variant ∧ (s.judgePulse t k).params = s.params ∧ (s.judgePulse t k).ant = s.ant ∧
    (s.judgePulse t k).pending = s.pending := by
  unfold State.judgePulse
  repeat' split
  all_goals simp

/-- A pulse leaves the variant, the parameters and the tracker (R44). -/
@[simp] theorem State.considerPulse_frame (t : Timestamp) (k : Handoff) :
    (s.considerPulse t k).variant = s.variant ∧ (s.considerPulse t k).params = s.params ∧
    (s.considerPulse t k).ant = s.ant ∧ (s.considerPulse t k).pending = s.pending := by
  unfold State.considerPulse
  repeat' split
  all_goals simp

/-- A FIRE leaves the variant and the parameters (R14). -/
@[simp] theorem State.handleFire_frame (t : Timestamp) (m a : RawCount) :
    (s.handleFire t m a).variant = s.variant ∧ (s.handleFire t m a).params = s.params ∧
    (s.handleFire t m a).pending = s.pending := by
  unfold State.handleFire; dsimp only; split <;> simp

/-- Stream time is the receiver's (R8). -/
@[simp] theorem State.setTime_frame (t : Timestamp) :
    (s.setTime t).variant = s.variant ∧ (s.setTime t).pins = s.pins ∧ (s.setTime t).params = s.params ∧
    (s.setTime t).ant = s.ant ∧ (s.setTime t).emq = s.emq ∧ (s.setTime t).eca = s.eca ∧ (s.setTime t).ptf = s.ptf ∧
    (s.setTime t).tbs = s.tbs ∧ (s.setTime t).exu = s.exu ∧ (s.setTime t).tru = s.tru ∧ (s.setTime t).rlf = s.rlf ∧
    (s.setTime t).flags = s.flags ∧ (s.setTime t).cmi = s.cmi ∧ (s.setTime t).freeCount = s.freeCount ∧
    (s.setTime t).pending = s.pending := by
  simp [State.setTime]

/-- An advance changes stream time and what closing changes (R9). -/
@[simp] theorem State.advance_frame (t : Timestamp) :
    (s.advance t).variant = s.variant ∧ (s.advance t).pins = s.pins ∧ (s.advance t).params = s.params ∧
    (s.advance t).ant = s.ant ∧ (s.advance t).pending = s.pending := by
  simp [State.advance]

/-- A time jump changes stream time and what a resync changes (R11). -/
@[simp] theorem State.timeJump_frame (t : Timestamp) :
    (s.timeJump t).variant = s.variant ∧ (s.timeJump t).pins = s.pins ∧ (s.timeJump t).params = s.params ∧
    (s.timeJump t).ant = s.ant ∧ (s.timeJump t).ptf = s.ptf ∧
    (s.timeJump t).pending = s.pending := by
  simp [State.timeJump]

/-! ### Equations -/

/-- R7, R45: the receiver under a pulse's judgement: at most the rejected-frame count changes. -/
theorem State.judgePulse_hlr (t : Timestamp) (k : Handoff) :
    (s.judgePulse t k).hlr = s.hlr ∨
      (s.judgePulse t k).hlr = { s.hlr with rejected := satSucc 65535 s.hlr.rejected } := by
  unfold State.judgePulse
  repeat' split
  all_goals simp

/-- Section 1.5: the four outcomes of a timestamp. -/
theorem State.timed_cases (t : Timestamp) (k : State → State) :
    (compareTime s.hlr.streamTime s.params.timeSlack t = .advance ∧ s.timed t k = k (s.advance t)) ∨
      (compareTime s.hlr.streamTime s.params.timeSlack t = .same ∧ s.timed t k = k s) ∨
      (compareTime s.hlr.streamTime s.params.timeSlack t = .late ∧ s.timed t k = k s) ∨
      (compareTime s.hlr.streamTime s.params.timeSlack t = .jump ∧ s.timed t k = s.timeJump t) := by
  unfold State.timed
  cases compareTime s.hlr.streamTime s.params.timeSlack t <;> simp

/-- R45: the outcomes of a pulse in RUNNING. -/
theorem State.judgePulse_cases (t : Timestamp) (k : Handoff) :
    s.judgePulse t k = s ∨ s.judgePulse t k = s.rejectFrame ∨
      ∃ m az, k.mirror = some m ∧ k.azimuth = some az ∧ s.ant.mirror.usable = true ∧ s.ant.azimuth.usable = true ∧
        m.enable = true ∧ s.emq.laterThanTail t = true ∧ s.judgePulse t k = s.acceptPulse t m az := by
  unfold State.judgePulse
  split
  · rename_i m az hm haz
    split
    · rename_i hc
      simp only [Bool.and_eq_true] at hc
      split
      · rename_i hl
        right; right
        exact ⟨m, az, hm, haz, hc.1.1, hc.1.2, hc.2, hl, rfl⟩
      · right; left; rfl
    · left; rfl
  · left; rfl

end Sys2Proof.Machine
end

