-- ==== Sys2Proof/Laws/Rows.lean ====
section
/-! SUPPORT. The path of a frame to its record, and of a row to its meaning. -/

namespace Sys2Proof.Machine

variable (s : State)

/-- A failing frame in SYNC changes the link state, and at its loss what a resync changes (R4). -/
@[simp] theorem State.syncFail_frame :
    (s.syncFail).variant = s.variant ∧ (s.syncFail).pins = s.pins ∧ (s.syncFail).params = s.params ∧
    (s.syncFail).ant = s.ant ∧ (s.syncFail).ptf = s.ptf ∧
    (s.syncFail).pending = s.pending := by
  unfold State.syncFail; dsimp only; split <;> simp

/-- A failing frame changes the link state, and at its loss what a resync changes (R2, R4). -/
@[simp] theorem State.frameFails_frame :
    (s.frameFails).variant = s.variant ∧ (s.frameFails).pins = s.pins ∧ (s.frameFails).params = s.params ∧
    (s.frameFails).ant = s.ant ∧ (s.frameFails).ptf = s.ptf ∧
    (s.frameFails).pending = s.pending := by
  unfold State.frameFails; split <;> simp

/-! ### Equations -/

/-- R16: with RESET_N asserted nothing is received. -/
theorem State.received_of_held (k : State → State) (h : s.pins.resetHeld = true) : s.received k = s := by
  simp [State.received, h]

/-- R2, R3: the three ways of a frame that passes the check. -/
theorem State.receiveRecord_cases (r : Record) :
    (s.pins.resetHeld = true ∧ s.receiveRecord r = s) ∨
      (s.pins.resetHeld = false ∧ s.hlr.link = .hunt ∧ s.receiveRecord r = s.onHlr Hlr.huntPass) ∨
      (s.listens ∧ s.receiveRecord r = s.passed.deliver r) := by
  unfold State.receiveRecord State.received State.framePasses State.listens
  cases hh : s.pins.resetHeld <;> cases hl : s.hlr.link <;> simp [State.passed, State.onHlr, hl]

/-- R3: a record delivered to a listening part. -/
theorem State.receiveRecord_of_listens (r : Record) (h : s.listens) : s.receiveRecord r = s.passed.deliver r := by
  rcases s.receiveRecord_cases r with ⟨h1, _⟩ | ⟨_, h1, _⟩ | ⟨_, h2⟩
  · rw [h.1] at h1; cases h1
  · rw [h.2] at h1; cases h1
  · exact h2

/-- R1 to R3: the ways of the bytes between two delimiters. -/
theorem State.receiveBytes_cases (bytes : List Byte) :
    (s.pins.resetHeld = true ∧ s.receiveBytes bytes = s) ∨
      (s.pins.resetHeld = false ∧ checkFrame bytes = none ∧ s.receiveBytes bytes = s.frameFails) ∨
      (s.pins.resetHeld = false ∧ s.hlr.link = .hunt ∧ (checkFrame bytes).isSome = true ∧
        s.receiveBytes bytes = s.onHlr Hlr.huntPass) ∨
      (s.listens ∧ ∃ kind payload, checkFrame bytes = some (kind, payload) ∧
        s.receiveBytes bytes = s.passed.classified kind payload) := by
  unfold State.receiveBytes State.received State.framePasses State.listens
  cases hh : s.pins.resetHeld <;> cases hc : checkFrame bytes <;> cases hl : s.hlr.link <;>
    simp [State.passed, State.onHlr, hl]
  exact ⟨_, _, rfl, rfl⟩

/-- The record state is the state with its bad run at 0. -/
@[simp] theorem State.passed_frame :
    s.passed.variant = s.variant ∧ s.passed.pins = s.pins ∧ s.passed.params = s.params ∧ s.passed.ant = s.ant ∧
      s.passed.emq = s.emq ∧ s.passed.eca = s.eca ∧ s.passed.ptf = s.ptf ∧ s.passed.tbs = s.tbs ∧
      s.passed.exu = s.exu ∧ s.passed.tru = s.tru ∧ s.passed.rlf = s.rlf ∧ s.passed.flags = s.flags ∧
      s.passed.cmi = s.cmi ∧ s.passed.freeCount = s.freeCount ∧ s.passed.pending = s.pending ∧
      s.passed.hlr = { s.hlr with badRun := 0 } := by
  simp [State.passed]

/-- R184: a command of at most 1024 argument bytes, taken at once by a listening part. -/
theorem State.receiveCommand_of_takes (tag code : Byte) (args : List Byte) (h : s.takes) (hl : args.length ≤ maxArgs) :
    s.receiveCommand tag code args = s.passed.takeCommand { tag := tag, code := code, args := args } := by
  unfold State.receiveCommand
  rw [s.receiveRecord_of_listens _ h.1]
  simp [State.deliver, State.deliverCmd, hl, State.deliverCommand, h.2.1, h.2.2]

/-! ### The input lines -/

/-- What sampling the input lines does: their levels, and a departure that begins at a rise of REC_READY (R176). -/
theorem State.withLines_eq (l : Lines) :
    s.withLines l =
      { s with
        pins := { s.pins with calEn := l.calEn, recReady := l.recReady }
        rlf :=
          { s.rlf with
            departing := s.rlf.departing || (l.recReady && !s.pins.recReady && !s.rlf.buffer.isEmpty) } } := by
  rcases l with ⟨a, b⟩
  simp only [State.withLines, State.onPins, State.tryDepart, State.onRlf]
  cases b <;> cases h : s.pins.recReady <;> simp

/-- Sampling the lines leaves a part that listens listening. -/
theorem State.listens_atLines (o : Option Lines) (h : s.listens) : (s.atLines o).listens := by
  cases o <;> simpa [State.atLines, State.listens, State.withLines_eq] using h

/-- Sampling the lines leaves a command to be taken at once. -/
theorem State.takes_withLines (l : Lines) (h : s.takes) : (s.withLines l).takes := by
  simpa [State.takes, State.listens, State.quiet, State.withLines_eq] using h

/-- A row that is the passing frame of a record receives that record. -/
theorem exec_of_recordOf {i : Instr} {r : Record} {o : Option Lines} (h : recordOf i = some (r, o)) :
    exec i s = .next ((s.atLines o).receiveRecord r).settleRead := by
  cases i <;> simp only [recordOf, reduceCtorEq, Option.some.injEq, Prod.mk.injEq] at h <;> obtain ⟨rfl, rfl⟩ := h <;> rfl

/-- Every meaning answers a next state (the spec stops the part nowhere). -/
theorem exec_next (i : Instr) (s : State) : ∃ t, exec i s = .next t := by
  cases i <;> exact ⟨_, rfl⟩

/-- A quiet interpreter that takes a command is quiet after it, or in a read with a fetch to make: nothing is left to settle. -/
theorem State.settleRead_takeCommand (c : Command) (h : s.quiet) : (s.takeCommand c).settleRead = s.takeCommand c := by
  rcases s.takeCommand_cases c with ⟨r, hr, _, e⟩ | ⟨x, _, _, e⟩ | ⟨_, e⟩
  · rw [e]; exact State.settleRead_of_reading _ rfl (by have := readRequest_ok s hr; omega)
  · rw [e]; apply State.settleRead_of_none <;> simp [State.refuse, h.1, h.2]
  · have hc : s.cmi = { reading := none, queue := [] } := by
      cases hc : s.cmi; have := h.1; have := h.2; simp_all
    have : ((replyTo c s).send c).cmi = { reading := none, queue := [] } := by
      rw [(Reply.send_frame _ _).2.2.2.2.2.2.2.2.2.2.2.2.1]
      refine replyTo_cases s c (fun x => x.state.cmi = _) ?_ ?_ ?_ ?_ ?_ ?_ ?_ ?_ ?_ ?_ ?_ ?_ ?_ ?_ ?_ ?_ ?_ ?_ ?_ ?_
      case refine_8 =>
        unfold cmdTableCommit Reply.ofLength State.commitTable State.takeCommit
        dsimp only
        repeat' split
        all_goals simp [State.accept, State.refuse, hc, State.generationSwitch_cmi_of_none]
      case refine_13 =>
        unfold cmdStop Reply.ofLength
        repeat' split
        all_goals simp [State.accept, State.refuse, hc, State.enterStopped_cmi_of_none]
      case refine_14 =>
        unfold cmdResync Reply.ofLength
        split <;> simp [State.accept, State.refuse, hc, State.doResync_cmi_of_none]
      case refine_19 =>
        unfold cmdReset Reply.ofLength
        split <;> simp [State.accept, State.refuse, hc, State.softReset, Cmi.initial]
      all_goals simp [State.refuse, hc]
    rw [e]; apply State.settleRead_of_none <;> rw [this]

/-- R184: the row of a command that is taken at once. -/
theorem exec_of_takes {i : Instr} {c : Command} {o : Option Lines} (h : recordOf i = some (.cmd c, o)) (ht : s.takes)
    (hl : c.args.length ≤ maxArgs) : exec i s = .next ((s.atLines o).passed.takeCommand c) := by
  have hq : (s.atLines o).takes := by cases o with
    | none => exact ht
    | some l => exact s.takes_withLines l ht
  rw [exec_of_recordOf s h, State.receiveRecord_of_listens _ _ hq.1]
  simp only [State.deliver, State.deliverCmd, hl, if_true]
  have hp : (s.atLines o).passed.quiet := hq.2
  have : (s.atLines o).passed.deliverCommand c = (s.atLines o).passed.takeCommand c := by
    simp [State.deliverCommand, hq.2.1, hq.2.2]
  rw [this, State.settleRead_takeCommand _ _ hp]

end Sys2Proof.Machine
end

