-- ==== Sys2Proof/Tests/Slice0.lean ====
section
/-! SUPPORT. Tests. The expected values are the manual's: its worked sequences and tables, or hand calculation from its rules.
Each statement with hypotheses has a witness that meets them, named after it. -/

namespace Sys2Proof.Machine.Tests

set_option Elab.async false

/-! ### Well-formedness: each check accepts a good term and refuses an ill-formed one -/

/-- A whole TICK frame. -/
def tickFrame : List Byte := encodeFrame (.tick 5#40)

/-- The same frame with a wrong check byte. -/
def badFrame : List Byte := [0x03, 0x00, 0x05, 0x00, 0x00, 0x00, 0x00, 0x05, 0x00, 0x00]

/-- A frame of kind 00h that passes the check: no record kind (R5). -/
def kindZeroFrame : List Byte := [0x00, 0x00, 0x00] ++ beBytes 2 (crc16 [0x00, 0x00, 0x00]).toNat

/-- 1025 argument bytes, one more than a CMD can carry. -/
def longArgs : List Byte := List.replicate 1025 0

theorem test_wf_failing_frame_accepted : (Instr.frameCheckFail badFrame).wellFormed = true := by decide +kernel
theorem test_wf_failing_frame_refused : (Instr.frameCheckFail tickFrame).wellFormed = false := by decide +kernel
theorem test_wf_hunt_frame_accepted : (Instr.huntFrame tickFrame).wellFormed = true := by decide +kernel
theorem test_wf_hunt_frame_refused : (Instr.huntFrame badFrame).wellFormed = false := by decide +kernel
theorem test_wf_refused_frame_accepted : (Instr.frameRefused kindZeroFrame).wellFormed = true := by decide +kernel
theorem test_wf_refused_frame_refused : (Instr.frameRefused tickFrame).wellFormed = false := by decide +kernel
theorem test_wf_refused_frame_fails_check : (Instr.frameRefused badFrame).wellFormed = false := by decide +kernel
theorem test_wf_tile_accepted : (Instr.tile 1 .ok 1 1 [⟨1, 2, 3⟩]).wellFormed = true := by decide
theorem test_wf_tile_no_columns : (Instr.tile 1 .ok 0 1 []).wellFormed = false := by decide
theorem test_wf_tile_wide : (Instr.tile 1 .failed 33 1 []).wellFormed = false := by decide
theorem test_wf_tile_no_rows : (Instr.tile 1 .failed 1 0 []).wellFormed = false := by decide
theorem test_wf_tile_tall : (Instr.tile 1 .busy 1 65 []).wellFormed = false := by decide
theorem test_wf_tile_cells_missing : (Instr.tile 1 .ok 2 1 [⟨1, 2, 3⟩]).wellFormed = false := by decide
theorem test_wf_tile_failed_with_cells : (Instr.tile 1 .failed 1 1 [⟨1, 2, 3⟩]).wellFormed = false := by decide
theorem test_wf_unknown_code_accepted : (Instr.unknownCommand 1 0x15 []).wellFormed = true := by decide
theorem test_wf_unknown_code_is_known : (Instr.unknownCommand 1 0x14 []).wellFormed = false := by decide
theorem test_wf_unknown_code_zero : (Instr.unknownCommand 1 0x00 []).wellFormed = true := by decide

theorem test_wf_args_refused :
    [Instr.unknownCommand 1 0x15 longArgs, .identify 1 longArgs, .getStatus 1 longArgs, .readEvents 1 longArgs,
      .clearEvents 1 longArgs, .setParam 1 longArgs, .getParam 1 longArgs, .tableWrite 1 longArgs, .tableRead 1 longArgs,
      .tableCommit 1 longArgs, .tableCancel 1 longArgs, .tableState 1 longArgs ⟨false, false⟩,
      .setProtect 1 longArgs ⟨false, false⟩, .start 1 longArgs, .stop 1 longArgs, .resync 1 longArgs,
      .triggerSet 1 longArgs, .triggerArm 1 longArgs, .triggerRead 1 longArgs, .captureRead 1 longArgs,
      .reset 1 longArgs ⟨false, false⟩].all (fun i => !i.wellFormed) = true := by decide +kernel

theorem test_wf_args_accepted : (Instr.tableWrite 1 (List.replicate 1024 0)).wellFormed = true := by decide +kernel

/-! ### Small states -/

/-- The state a step leads to; the state itself where it leads to none. -/
def next (i : Instr) (s : State) : State :=
  match exec i s with
  | .next t => t
  | .fault _ => s
  | .refused _ => s

/-- Lines low, lines high. -/
def low : Lines := ⟨false, false⟩
def high : Lines := ⟨true, true⟩

/-- After reset with the link in SYNC and no flag set. -/
def listening : State := { State.reset with hlr := { Hlr.initial with link := .sync }, flags := 0 }

/-- RESET_N asserted. -/
def held : State := { listening with pins := { listening.pins with resetHeld := true } }

/-- A run state. -/
def inRun (r : RunState) : State := { listening with emq := { listening.emq with run := r } }

/-- Stream time at a value. -/
def at_ (t : Timestamp) (s : State) : State := { s with hlr := { s.hlr with streamTime := some t } }

/-- The answer at the end of the buffer. -/
def lastAnswer (s : State) : Option Answer :=
  match s.rlf.buffer.getLast? with
  | some f =>
    match f.payload with
    | .rsp a => some a
    | _ => none
  | none => none

/-- The result and body of the answer to a row at a state. -/
def answerOf (i : Instr) (s : State) : Option (ResultCode × List Byte) :=
  (lastAnswer (next i s)).map fun a => (a.result, a.body)

/-- A channel that tracks at a count with a step. -/
def tracking (ref last : Nat) (step : Int) : Channel :=
  { Channel.initial with state := .tracking, ref := ref, samples := 1, last := last, step := step, used := last }

/-- The bank of section 4.6: Z0 320, K 1,534,937, the global window 20,000..30,000,000 and ListenTicks 100,000. -/
def bank46 : Bank :=
  { Bank.zero with
    rangeConst := [1534937#32, 320#32, 20000#32, 30000000#32, 100000#32]
    walk := (((Bank.zero.walk.set 15 38).set 16 30).set 62 (-10)).set 63 (-12)
    zonePlan := List.replicate 64 ⟨800000, 4000000, 3, .nearest⟩
    echoPolicy := [⟨.all, 8, 2, 0, 0, 1023, .near, true⟩]
    facet := List.replicate 8 ⟨0, true⟩ }

/-- A pulse of generation 0 at elevation 0. -/
def pulse (seq : BitVec 32) (t : Timestamp) : Pulse where
  seq := seq
  tFire := t
  elevation := 0
  azimuth := 0
  facet := 1
  sweep := 7
  gen := 0
  elevHeld := false
  azHeld := false
  echoOverflow := false
  colour := none
  echoes := []

/-- An echo entry. -/
def entry (range : Nat) (amplitude : BitVec 12) (width : BitVec 10) : EchoEntry :=
  { amplitude := amplitude, width := width, range := range, zone := 0 }

/-- A part in RUNNING with both channels TRACKING, the bank of section 4.6 and given open pulses; no batch holds up. -/
def runWith (q : List Pulse) : State :=
  { listening with
    ant := { Ant.initial with mirror := tracking 0 12500 500, azimuth := tracking 0 100 2 }
    emq := { Emq.initial with run := .running, queue := q, accepted := BitVec.ofNat 32 q.length }
    tbs :=
      { Tbs.initial with
        bankActive := bank46, activeStatus := { PerTable.const ActiveStatus.valid with exposurePlan := .empty } } }

/-- A run state over a running part. -/
def runAs (r : RunState) (s : State) : State := { s with emq := { s.emq with run := r } }

/-- A read of 2 WALK entries from entry 31. -/
def read2 (done : Nat) : Reading :=
  { tag := 9, table := .walk, bank := .active, start := 31, count := 2, done := done, firstGen := 0, lastGen := 0
    split := false, entries := [] }

/-- A part with a read in execution and commands behind it. -/
def readingWith (done : Nat) (q : List Command) : State := { listening with cmi := { reading := some (read2 done), queue := q } }

/-- A command without arguments. -/
def cmd (tag code : Byte) : Command := ⟨tag, code, []⟩

/-- An exposure record ahead of azimuth 1000. -/
def exposure (n : BitVec 16) : Exposure where
  number := n
  planEntry := 3
  station := 12
  tFire := 77
  azimuth := 0
  elevation := 0
  azLo := 1000
  span := 500
  elLo := -10
  elHi := 10

/-- A tile over the same span. -/
def tile (n : BitVec 16) : Tile where
  number := n
  azLo := 1000
  span := 500
  elLo := -10
  elHi := 10
  cols := 1
  rows := 1
  cells := [⟨1, 2, 3⟩]

/-- A P4C with CamEnable in RUNNING, with records, tiles and a previous laser azimuth. -/
def exposing (q : List Exposure) (ts : List Tile) (prev : Option Azimuth) : State :=
  { inRun .running with
    params := { Params.initial with camEnable := true }
    exu := { Exu.initial with queue := q, tiles := ts, prevLaser := prev } }

/-- A trigger state. -/
def triggered (t : TriggerState) : State := { listening with tru := { Tru.initial with state := t } }

/-- A point record of range and amplitude. -/
def point (range : Nat) (amplitude : BitVec 12) : PointRecord :=
  { (pulse 1 2).baseRecord false false 1 with
    echoIndex := 1, echo := some { range := range, amplitude := amplitude, width := 5 } }

/-- A frame in the buffer. -/
def frameOf (p : Payload) : OutFrame := listening.stamp p

/-- An answer with a body of n bytes. -/
def answerSized (n : Nat) : Answer := { tag := 1, code := 2, result := .ok, body := List.replicate n 0 }

/-! ### Decoding the Head Link (chapters 1 and 11) -/

/-- CRC-16 of "123456789" with 1021h from FFFFh is 29B1h, the published check value of this code. -/
theorem test_crc_check_value : crc16 [0x31, 0x32, 0x33, 0x34, 0x35, 0x36, 0x37, 0x38, 0x39] = 0x29B1#16 := by decide +kernel

/-- Section 11.1, FIRE: t 5 bytes, mirror 3, azimuth 3. -/
theorem test_classify_fire :
    classify .p4c 0x01 [0, 0, 0, 1, 2, 0, 0x10, 0x20, 0x0A, 0x0B, 0x0C] = some (.fire 0x0102 0x1020 0x0A0B0C) := by
  decide +kernel

/-- Section 11.1, ECHO: amplitude in bits 23..12, width in bits 11..2, two spare bits. -/
theorem test_classify_echo : classify .p4c 0x02 [0, 0, 0, 0, 9, 0xFF, 0xF0, 0x17] = some (.echo 9 0xFFF 5) := by
  decide +kernel

/-- R6: a TILE is refused on a P4M. -/
theorem test_classify_tile_p4m : classify .p4m 0x05 [0, 7, 1, 1, 1] = none := by decide +kernel
theorem test_classify_tile_p4c : classify .p4c 0x05 [0, 7, 1, 1, 1] = some (.tile 7 .failed 1 1 []) := by decide +kernel

/-- No row of the table has bits. -/
theorem test_no_row_has_bits : decodeTableWord 8 0 = none := rfl

/-! ### Rows: resets and the link -/

theorem test_powerOnReset : (next (.powerOnReset high) held).pins = ⟨false, true, true, false⟩ := by decide +kernel

/-- R125: a FROZEN protection survives a line reset. -/
theorem test_lineReset_keeps_frozen :
    (next .lineReset { held with tbs := { held.tbs with protection := ⟨1, 2, true, .frozen⟩ } }).tbs.protection =
      ⟨1, 2, true, .frozen⟩ := by decide +kernel

theorem test_resetNRelease : (next (.resetNRelease low) held).pins.resetHeld = false := by decide +kernel

/-- R4: the fourth failing frame raises LINK_CRC (4) and LINK_LOST (6) and leads to HUNT. -/
theorem test_frameCheckFail_fourth :
    let s := next (.frameCheckFail badFrame) { listening with hlr := { listening.hlr with badRun := 3 } }
    s.hlr.link = .hunt ∧ s.flags = 0x000050#24 := by decide +kernel

/-- R2: the second passing frame in HUNT. -/
theorem test_huntFrame_second :
    (next (.huntFrame tickFrame) { State.reset with hlr := { Hlr.initial with goodRun := 1 } }).hlr =
      { Hlr.initial with link := .sync } := by decide +kernel

/-- R5, R7: a refused frame ends a run of failures. -/
theorem test_frameRefused :
    let s := next (.frameRefused kindZeroFrame) { listening with hlr := { listening.hlr with badRun := 2 } }
    s.hlr.rejected = 1 ∧ s.hlr.badRun = 0 ∧ s.flags = 0x000020#24 := by decide +kernel

/-! ### Rows: records -/

/-- Section 2.3: an accepted sample of 503 counts after a step of 500. -/
theorem test_fire_tracks :
    let s := next (.fire 3 6003 0)
      { listening with ant := { Ant.initial with mirror := tracking 1000 5500 500 } }
    s.ant.mirror.last = 6003 ∧ s.ant.mirror.step = 503 ∧ s.ant.mirror.state = .tracking := by decide +kernel

/-- R44, R47: a FIRE in RUNNING is accepted with the next seq and elevation of its facet. -/
theorem test_fire_accepted :
    let s := next (.fire 2000 13000 102) (runWith [])
    s.emq.accepted = 1 ∧ s.emq.queue.map Pulse.seq = [0] ∧ s.emq.queue.map Pulse.tFire = [2000] := by decide +kernel

/-- R61: no candidate makes an orphan (flag 12). -/
theorem test_echo_orphan :
    let s := next (.echo 5 100 3) (runWith [])
    s.eca.orphans = 1 ∧ s.flags = 0x001000#24 := by decide +kernel

/-- Section 4.6, case 1: tof 53,720 at amplitude 980 (walk 36) gives the range 1,250,660. -/
theorem test_echo_assigned :
    let s := next (.echo 1085720 980 5) (runWith [pulse 0 1032000])
    (s.emq.queue.map fun p => p.echoes.map EchoEntry.range) =
        [[1250660]] ∧ s.eca.free = 511 := by decide +kernel

/-- R10: a late TICK has no effect on stream time; R11: one beyond the slack sets it. -/
theorem test_tick_late : (next (.tick 36980) (at_ 37000 listening)).hlr.streamTime = some 37000 := by decide +kernel
theorem test_tick_jump : (next (.tick 36900) (at_ 37000 listening)).hlr.streamTime = some 36900 := by decide +kernel

/-- R20: the first index; R21: an index 3 counts off lies within a margin of 4. -/
theorem test_index_first : (next (.index .mirror 1000) listening).ant.mirror.ref = 1000 := by decide +kernel
theorem test_index_within :
    (next (.index .mirror 1003) { listening with ant := { Ant.initial with mirror := tracking 1000 5 1 } }).ant.mirror.ref =
      1000 := by decide +kernel

/-- R139, R140: a fifth tile is dropped (flag 19). -/
theorem test_tile_stored : (next (.tile 5 .ok 1 1 [⟨1, 2, 3⟩]) (exposing [exposure 5] [] none)).exu.tiles.length = 1 := by
  decide +kernel
theorem test_tile_dropped :
    let s := next (.tile 5 .ok 1 1 [⟨1, 2, 3⟩]) (exposing [exposure 5] [tile 1, tile 2, tile 3, tile 4] none)
    s.exu.tiles.length = 4 ∧ s.exu.queue = [] ∧ s.flags = 0x080000#24 := by decide +kernel

/-! ### Rows: commands -/

theorem test_unknownCommand : answerOf (.unknownCommand 1 0x33 [1]) listening = some (.unknownCommand, []) := by
  decide +kernel

/-- R189: the first bytes of IDENTIFY are "KVP4" and the variant. -/
theorem test_identify :
    (answerOf (.identify 1 []) listening).map (fun r => r.2.take 5) = some [0x4B, 0x56, 0x50, 0x34, 0x01] := by
  decide +kernel

theorem test_getStatus : (answerOf (.getStatus 1 []) listening).map (fun r => r.2.take 8) =
    some [0, 0, 0, 1, 0, 0, 2, 0] := by decide +kernel

/-- R178: flags 0 and 3 read, 3 kept. -/
theorem test_readEvents :
    let s : State := { listening with flags := 9, params := { Params.initial with keepMask := 8 } }
    answerOf (.readEvents 1 []) s = some (.ok, [0, 0, 0, 9]) ∧ (next (.readEvents 1 []) s).flags = 8 := by decide +kernel

/-- R179: id 24 refuses the mask. -/
theorem test_clearEvents : (next (.clearEvents 1 [0, 0, 0, 1]) { listening with flags := 9 }).flags = 8 := by decide +kernel
theorem test_clearEvents_refused : answerOf (.clearEvents 1 [1, 0, 0, 0]) listening = some (.badArgument, []) := by
  decide +kernel

/-- R191: a clamped write, and Facets 1 beside Deflection 2 refused with the value held. -/
theorem test_setParam_clamps : answerOf (.setParam 1 [0, 0, 0, 0, 255]) listening = some (.ok, [0, 0, 0, 0, 20]) := by
  decide +kernel
theorem test_setParam_refused : answerOf (.setParam 1 [6, 0, 0, 0, 1]) listening = some (.badArgument, [6, 0, 0, 0, 4]) := by
  decide +kernel

theorem test_getParam : answerOf (.getParam 1 [12]) listening = some (.ok, [12, 0x03, 0xD0, 0x90, 0x00]) := by
  decide +kernel

/-- R107: RANGE_CONST from start 3 with four entries writes entries 3, 4, 0 and 1. -/
theorem test_tableWrite_wraps :
    let args : List Byte := [0, 3] ++ beBytes 4 7 ++ beBytes 4 8 ++ beBytes 4 1500000 ++ beBytes 4 9
    (next (.tableWrite 1 args) listening).tbs.staged.rangeConst = [1500000, 9, 0, 7, 8] := by decide +kernel

theorem test_tableRead : (next (.tableRead 1 [1, 1, 31, 2]) listening).cmi.reading.isSome = true := by decide +kernel

/-- R121, R107: the second entry of the read wraps to entry 0; the answer follows. -/
theorem test_tableReadFetch_last :
    answerOf (.tableReadFetch low) (readingWith 1 []) = some (.ok, [1, 1, 31, 2, 0, 0, 0, 0, 0, 0]) := by decide +kernel

/-- R111: a commit in STOPPED switches at once. -/
theorem test_tableCommit_stopped : answerOf (.tableCommit 1 [1]) listening = some (.ok, [1, 0]) := by decide +kernel
theorem test_tableCommit_running : answerOf (.tableCommit 1 [1]) (inRun .running) = some (.ok, [0, 1]) := by decide +kernel

theorem test_tableCancel :
    let s := { listening with tbs := { Tbs.initial with stagedStatus := PerTable.const .pending } }
    (next (.tableCancel 1 [1]) s).tbs.stagedStatus.walk = .dirty := by decide +kernel

theorem test_tableState : (answerOf (.tableState 1 [] high) listening).map (fun r => r.2.length) = some 23 := by
  decide +kernel

/-- R124: LINE consults CAL_EN. -/
theorem test_setProtect_locked :
    let s := { listening with tbs := { Tbs.initial with protection := ⟨0, 0, false, .line⟩ } }
    answerOf (.setProtect 1 [4, 3, 0, 2] low) s = some (.locked, []) ∧
      (next (.setProtect 1 [4, 3, 0, 2] high) s).tbs.protection = ⟨4, 3, false, .frozen⟩ := by decide +kernel

theorem test_start_waits : (next (.start 1 []) listening).emq.run = .waiting := by decide +kernel
theorem test_start_runs : (next (.start 1 []) (runAs .stopped (runWith []))).emq.run = .running := by decide +kernel
theorem test_stop_drains : (next (.stop 1 []) (runWith [pulse 0 5])).emq.run = .draining := by decide +kernel
theorem test_stop_at_once : (next (.stop 1 []) (runWith [])).flags = 0x000004#24 := by decide +kernel
theorem test_resync : (next (.resync 1 []) (runWith [pulse 0 5])).emq.flushed = 1 := by decide +kernel

/-- R152: the clamped range lo above the clamped range hi refuses the command. -/
theorem test_triggerSet :
    let args : List Byte := [1, 7, 2, 1, 0, 3] ++ beBytes 4 5 ++ beBytes 4 9 ++ [0, 0, 0, 0, 0] ++ beBytes 4 5 ++
      beBytes 4 9 ++ [0, 0, 0, 0, 0]
    (next (.triggerSet 1 args) listening).tru.config.l2Window = 3 := by decide +kernel
theorem test_triggerSet_refused :
    let args : List Byte := [1, 7, 2, 1, 0, 3] ++ beBytes 4 9 ++ beBytes 4 5 ++ [0, 0, 0, 0, 0] ++ beBytes 4 5 ++
      beBytes 4 9 ++ [0, 0, 0, 0, 0]
    answerOf (.triggerSet 1 args) listening = some (.badArgument, []) := by decide +kernel

theorem test_triggerArm : (next (.triggerArm 1 []) listening).tru.state = .waitL1 := by decide +kernel
theorem test_triggerRead : (next (.triggerRead 1 []) (triggered .l2Hit)).tru.state = .off := by decide +kernel
theorem test_captureRead : answerOf (.captureRead 1 []) listening = some (.ok, [0, 0, 0, 0]) := by decide +kernel

/-- R198: RESET keeps the parameters and is answered with RESET in the summary when the select list names it. -/
theorem test_reset :
    let s : State := { listening with params := { Params.initial with statusSelect := [0, 31, 31, 31, 31, 31, 31, 31] } }
    (next (.reset 1 [] low) s).rlf.buffer.map OutFrame.summary = [1] ∧ (next (.reset 1 [] low) s).hlr.link = .hunt := by
  decide +kernel

/-! ### Rows: events -/

/-- R48: age 100,001 exceeds ListenTicks 100,000; age 100,000 does not. -/
theorem test_pulseClose : (next .pulseClose (at_ 100001 (runWith [pulse 0 0]))).emq.closed = 1 := by decide +kernel
theorem test_pulseClose_listens : (next .pulseClose (at_ 100000 (runWith [pulse 0 0]))).emq.closed = 0 := by decide +kernel

/-- R172: age 64,000,001 exceeds BatchFlushTicks. -/
theorem test_batchFlush :
    let s : State := { at_ 64000003 listening with rlf := { Rlf.initial with batch := [point 5 6] } }
    (next .batchFlush s).rlf.buffer.map (fun f => f.payload.size) = [32] := by decide +kernel
theorem test_batchFlush_young :
    let s : State := { at_ 64000002 listening with rlf := { Rlf.initial with batch := [point 5 6] } }
    (next .batchFlush s).rlf.batch.length = 1 := by decide +kernel

theorem test_l2WindowEnd : (next .l2WindowEnd (triggered .waitL2)).tru.state = .waitL1 := by decide +kernel

theorem test_captureFull :
    (next .captureFull { listening with tru := { Tru.initial with capState := .filling } }).flags = 0x400000#24 := by
  decide +kernel

/-- R142, R143: the end 1,500 lies between the azimuths 1,499 and 1,500. -/
theorem test_tileTimeout : (next (.tileTimeout 1500) (exposing [exposure 5] [] (some 1499))).exu.queue = [] := by
  decide +kernel
theorem test_tileRetire : (next (.tileRetire 1500) (exposing [] [tile 5] (some 1499))).exu.tiles = [] := by decide +kernel

/-- R112: a pulse of the previous generation holds the switch up. -/
theorem test_generationSwitch :
    let pend (s : State) : State := { s with tbs := { s.tbs with stagedStatus := PerTable.const .pending } }
    (next .generationSwitch (pend (runWith [pulse 0 5]))).tbs.generation = 1 ∧
      (next .generationSwitch (pend (runWith [{ pulse 0 5 with gen := 255 }]))).tbs.generation = 0 := by decide +kernel

theorem test_streamStarted : (next .streamStarted (runAs .waiting (runWith []))).emq.run = .running := by decide +kernel
theorem test_drainEnd : (next .drainEnd (runAs .draining (runWith []))).emq.run = .stopped := by decide +kernel

/-- R176. -/
theorem test_recReadyRise :
    (next .recReadyRise { listening with rlf := { Rlf.initial with buffer := [frameOf (.swp 1 2 3)] } }).rlf.departing =
      true := by decide +kernel
theorem test_frameDepartureEnd :
    let s : State :=
      { listening with rlf := { Rlf.initial with buffer := [frameOf (.swp 1 2 3), frameOf (.swp 4 5 6)], departing := true } }
    (next (.frameDepartureEnd high) s).rlf.buffer.length = 1 ∧ (next (.frameDepartureEnd high) s).rlf.departing = true ∧
      (next (.frameDepartureEnd low) s).rlf.departing = false := by decide +kernel

/-- R176, log entry 10: with no frame leaving, a REC_READY found risen starts the oldest frame and removes none. -/
theorem test_frameDepartureEnd_idle :
    let s : State := { listening with rlf := { Rlf.initial with buffer := [frameOf (.swp 1 2 3)] } }
    (next (.frameDepartureEnd high) s).rlf.buffer.length = 1 ∧ (next (.frameDepartureEnd high) s).rlf.departing = true ∧
      (next (.frameDepartureEnd low) s).rlf.departing = false := by decide +kernel

/-- R174. -/
theorem test_rspWaitAdmit :
    let s : State := { listening with rlf := { Rlf.initial with waiting := [answerSized 0, answerSized 1] } }
    (next .rspWaitAdmit s).rlf.buffer.length = 2 ∧ (next .rspWaitAdmit s).rlf.waiting = [] := by decide +kernel

theorem test_camTrigPulseEnd :
    (next .camTrigPulseEnd { listening with pins := ⟨false, false, false, true⟩ }).pins.camTrig = false := by
  decide +kernel

/-! ### Worked values of shared operations -/

/-- Section 2.4: mirror count 17,400 with reference 1000 gives elevation −4,185,924. -/
theorem test_elevation_worked :
    let b : Bank :=
      { Bank.zero with
        elevCorr := (Bank.zero.elevCorr.set 64 120).set 65 100, facet := Bank.zero.facet.set 1 ⟨-50, true⟩ }
    mirrorAngles b Params.initial { Channel.initial with state := .tracking, ref := 1000, used := 17400 } =
      some ⟨1, -4185924, true⟩ := by decide +kernel

/-- Section 2.4: azimuth 12,480,019 with AzSign −1. -/
theorem test_azimuth_worked :
    let b : Bank := { Bank.zero with azCorr := (Bank.zero.azCorr.set 65 (-30)).set 66 (-10) }
    azimuthAngle b { Params.initial with azSign := .minus }
      { Channel.initial with state := .tracking, ref := 900000, used := 120000 } = some 12480019 := by decide +kernel

/-- R77: the decreasing pair 10, 9 and the increasing pair 9, 10 at f 32 both give 10. -/
theorem test_walk_rounds :
    walkAt { Bank.zero with walk := [10, 9] } 32 = 10 ∧ walkAt { Bank.zero with walk := [9, 10] } 32 = 10 := by decide

/-- Section 5.9: six returns under ALL with OutMax 3 give positions 1, 2 and 6. -/
theorem test_policy_all_three :
    let es := [entry 310420 150 12, entry 311055 2100 9, entry 312880 40 14, entry 1204500 2100 9, entry 1988230 900 10]
    let p : PolicyEntry := ⟨.all, 3, 8, 0, 0, 1023, .near, false⟩
    (pulseRecords p { pulse 420 0 with echoes := es } false).map (fun r => (r.echoIndex, r.echoCount, r.trimmed)) =
      [(1, 5, true), (2, 5, true), (5, 5, true)] := by decide +kernel

/-! ### Witnesses: states that meet the hypotheses of the statements -/

theorem listening_takes : listening.takes := ⟨⟨rfl, rfl⟩, rfl, rfl⟩
theorem runWith_takes (q : List Pulse) : (runWith q).takes := ⟨⟨rfl, rfl⟩, rfl, rfl⟩

theorem witness_StepRunsTheFrontCommand :
    (readingWith 0 [cmd 1 1]).pending = [] ∧ (readingWith 0 [cmd 1 1]).cmi.reading ≠ none ∧
      (let s : State := { listening with cmi := { reading := none, queue := [cmd 1 1] } }
       s.pending = [] ∧ s.cmi.reading = none ∧ s.cmi.queue = cmd 1 1 :: []) ∧
      listening.pending = [] ∧ listening.cmi.queue = [] :=
  ⟨rfl, by decide, ⟨rfl, rfl, rfl⟩, rfl, rfl⟩

theorem witness_SoftResetKeepsTheSettings : listening.takes := listening_takes

/-- R198, R186, R190: a RESET taken from the queue drops the command behind it unanswered; a GET_STATUS taken in HUNT answers with
link code 0. -/
theorem test_queued_reset_and_status :
    let s : State := { listening with cmi := { reading := none, queue := [cmd 1 1] } }
    let hunting : State := { s with hlr := Hlr.initial }
    (s.takeCommand (cmd 2 0x14)).cmi.queue = [] ∧ (s.takeCommand (cmd 2 0x14)).rlf.buffer.length = 1 ∧
      (hunting.takeCommand (cmd 2 0x02)).cmi.queue = [cmd 1 1] ∧ hunting.statusBody.getD 3 9 = 0 := by decide +kernel

theorem witness_FramesUnderTheLinkState :
    recordOf (.tick 5) = some (.tick 5, none) ∧ recordOf (.reset 1 [] low) = some (commandRecord 0x14 1 [], some low) ∧
      held.pins.resetHeld = true ∧
      (State.reset.pins.resetHeld = false ∧ State.reset.hlr.link = .hunt ∧ State.reset.hlr.goodRun = 0) ∧
      (let s : State := { State.reset with hlr := { Hlr.initial with goodRun := 1 } }
       s.pins.resetHeld = false ∧ s.hlr.link = .hunt ∧ s.hlr.goodRun ≠ 0) ∧
      listening.listens ∧ (checkFrame tickFrame).isSome = true ∧ checkFrame badFrame = none :=
  ⟨rfl, rfl, rfl, ⟨rfl, rfl, rfl⟩, ⟨rfl, rfl, by decide⟩, listening_takes.1, by decide +kernel, by decide +kernel⟩

theorem witness_FramesInSync :
    listening.listens ∧ checkFrame tickFrame = some (0x03, [0, 0, 0, 0, 5]) ∧
      classify listening.variant 0x03 [0, 0, 0, 0, 5] = some (.tick 5) ∧ checkFrame kindZeroFrame = some (0x00, []) ∧
      classify listening.variant 0x00 [] = none ∧ checkFrame badFrame = none ∧
      (let s (n : Nat) : State := { listening with hlr := { listening.hlr with badRun := n } }
       (s 2).listens ∧ (s 2).hlr.badRun < 3 ∧ (s 3).listens ∧ 3 ≤ (s 3).hlr.badRun) :=
  ⟨listening_takes.1, by decide +kernel, by decide +kernel, by decide +kernel, by decide +kernel, by decide +kernel,
    ⟨rfl, rfl⟩, by decide, ⟨rfl, rfl⟩, by decide⟩

theorem witness_FramesOfRecordsRoundTrip :
    (Record.cmd ⟨1, 7, List.replicate 1024 0⟩).wellFormed = true ∧
      (Record.tile 5 .ok 32 64 (List.replicate 2048 ⟨1, 2, 3⟩)).wellFormed = true ∧ listening.variant = .p4c ∧
      (Record.tick 5).wellFormed = true ∧ recordOf (.tick 5) = some (.tick 5, none) ∧
      classify .p4m 2 [0, 0, 0, 0, 5, 0, 0x10, 0x07] = some (.echo 5 1 1) :=
  ⟨by decide +kernel, by decide +kernel, rfl, by decide +kernel, rfl, by decide +kernel⟩

/-- R1: a CRC one bit off, a frame cut short in its CRC and one behind which fill follows. -/
theorem test_frame_check :
    checkFrame badFrame = none ∧ checkFrame (tickFrame.take 9) = none ∧
      checkFrame (tickFrame ++ [0xAA, 0x55]) = some (0x03, [0, 0, 0, 0, 5]) := by decide +kernel

/-- R5, R6 at the boundaries of each condition: kinds 0 and 7, lengths, channels 0 and 3, a CMD of 1, 2, 1026 and 1027 bytes, a
TILE's status, columns, rows and number of cells, and any TILE on a P4M. -/
theorem test_refused_frames :
    let passes (v : Variant) (kind : Byte) (payload : List Byte) : Bool := (classify v kind payload).isSome
    let tile (st cols rows : Byte) (n : Nat) : List Byte := [0, 5, st, cols, rows] ++ List.replicate n 9
    (passes .p4c 0 [] || passes .p4c 7 [] || passes .p4c 3 [0, 0, 0, 5] || passes .p4c 1 (List.replicate 12 0)) = false ∧
      [0, 1, 2, 3].map (fun c : Byte => passes .p4c 4 [c, 0, 0, 7]) = [false, true, true, false] ∧
      [1, 2, 1026, 1027].map (fun n => passes .p4c 6 (List.replicate n 0)) = [false, true, true, false] ∧
      [tile 0 2 1 6, tile 1 32 64 0, tile 2 1 1 0].map (passes .p4c 5) = [true, true, true] ∧
      [tile 3 1 1 0, tile 1 0 1 0, tile 1 33 1 0, tile 1 1 0 0, tile 1 1 65 0, tile 0 2 1 5, tile 1 1 1 3].map (passes .p4c 5) =
        List.replicate 7 false ∧
      passes .p4m 5 (tile 1 1 1 0) = false := by decide +kernel

theorem witness_LeadAndLagDecideTheComparison :
    compareTime (some 9) 4095 9 = .same ∧ compareTime (some 9) 4095 10 = .advance ∧
      compareTime (some 0) 4095 (BitVec.ofNat 40 (2 ^ 39 - 1)) = .advance ∧ compareTime (some 9) 4095 8 = .late ∧
      compareTime (some 5000) 4095 905 = .late ∧ compareTime (some 5000) 4095 904 = .jump ∧
      compareTime (some 0) 4095 (BitVec.ofNat 40 (2 ^ 39)) = .jump := by decide +kernel

theorem witness_TimedRecordsAreHandledInOrder :
    listening.listens ∧ (at_ 5000 listening).listens ∧
      compareTime listening.hlr.streamTime listening.params.timeSlack 7 = .advance ∧
      compareTime (at_ 5000 listening).hlr.streamTime listening.params.timeSlack 5000 = .same ∧
      compareTime (at_ 5000 listening).hlr.streamTime listening.params.timeSlack 4936 = .late ∧
      compareTime (at_ 5000 listening).hlr.streamTime listening.params.timeSlack 4935 = .jump ∧
      listening.emq.run = .stopped ∧ (inRun .draining).emq.run = .draining ∧ (runWith []).emq.run = .running ∧
      (inRun .waiting).emq.run = .waiting ∧ ¬(inRun .waiting).ready ∧ (runAs .waiting (runWith [])).emq.run = .waiting ∧
      (runAs .waiting (runWith [])).ready ∧ (runWith []).cmi.reading = none :=
  ⟨⟨rfl, rfl⟩, ⟨rfl, rfl⟩, by decide +kernel, by decide +kernel, by decide +kernel, by decide +kernel, rfl, rfl, rfl, rfl,
    fun h => absurd h.1 (by decide), rfl, ⟨rfl, rfl, fun t h => by cases t <;> first | rfl | exact absurd rfl h⟩, rfl⟩

theorem witness_IndexIsHeldAgainstTheReference :
    let s := runWith []
    listening.listens ∧ (listening.ant.channel .azimuth).state = .unlocked ∧
      s.listens ∧ (s.ant.channel .mirror).state ≠ .unlocked ∧
      (signedMod (s.params.bits .mirror) ((4 : Int) - ((s.ant.channel .mirror).ref : Int))).natAbs ≤ s.params.margin .mirror ∧
      s.params.margin .mirror < (signedMod (s.params.bits .mirror) ((5 : Int) - ((s.ant.channel .mirror).ref : Int))).natAbs :=
  ⟨⟨rfl, rfl⟩, rfl, ⟨rfl, rfl⟩, by decide, by decide +kernel, by decide +kernel⟩

theorem witness_EightRejectedSamplesMakeAFault :
    let c := tracking 0 100 2
    let f : Channel := { c with state := .fault, rejectRun := 8 }
    let run (c : Channel) (xs : List Nat) : Channel := xs.foldl (fun c x => (c.sample 20 16 x).1) c
    (run c (List.replicate 7 5000)).state = .holding ∧ (run c (List.replicate 8 5000)).state = .fault ∧
      (run c (List.replicate 8 5000)).used = 116 ∧
      (List.range 8).all (fun k => decide (16 < (signedMod 20 ((5000 : Int) - (100 + 2 * ((k : Int) + 1)))).natAbs)) = true ∧
      f.accepts 20 16 118 = true ∧ (run f [118, 120, 122]).state = .fault ∧
      (run f [118, 120, 122]).accepts 20 16 124 = true ∧ (run f [118, 120, 122, 124]).state = .tracking := by
  decide +kernel

/-- One sample at each boundary: the first two of ACQUIRING; a distance of 16 and one of 17; the run 6 before and 7 before the
eighth rejected sample; the third and the fourth valid sample in FAULT. R23: 115 after two rejected samples from 100 is a step of
15 over 3. -/
theorem witness_SampleStates :
    let acquiring (n : Nat) : Channel := { Channel.initial with state := .acquiring, samples := n, last := 90 }
    let held (n : Nat) : Channel := { tracking 0 100 2 with state := .holding, rejectRun := n }
    let fault (n : Nat) : Channel := { tracking 0 100 2 with state := .fault, rejectRun := 255, goodRun := n }
    Channel.initial.sample 20 16 7 = (Channel.initial, .quiet) ∧
      ((acquiring 0).sample 20 16 90).1.state = .acquiring ∧ ((acquiring 1).sample 20 16 100).1 = { tracking 0 100 10 with } ∧
      (tracking 0 100 2).accepts 20 16 118 = true ∧ (tracking 0 100 2).accepts 20 16 119 = false ∧
      ((held 2).sample 20 16 115).1 = tracking 0 115 5 ∧
      ((held 6).sample 20 16 5000).2 = .quiet ∧ ((held 7).sample 20 16 5000).2 = .fault ∧
      ((fault 0).sample 20 16 5000).1.rejectRun = 255 ∧ (fault 2).accepts 20 16 612 = true ∧
      ((fault 2).sample 20 16 612).1.goodRun = 3 ∧ ((fault 3).sample 20 16 612).1.state = .tracking := by
  decide +kernel

theorem witness_AnglesStayInRange :
    Params.initial.inRange ∧ (mirrorAngles Bank.zero Params.initial (tracking 0 65535 1)).isSome = true ∧
      Channel.rawAngle (tracking 0 (2 ^ 24 - 1) 1) 24 = 2 ^ 24 - 1 ∧ Channel.initial.state = .unlocked ∧
      (tracking 0 65535 1).state ≠ .unlocked :=
  ⟨by simp [Params.inRange, Params.initial], by decide +kernel, by decide +kernel, rfl, by decide⟩

theorem witness_TrackerHandlesAFire :
    let a (l : Option Nat) : Ant := { Ant.initial with lastFacet := l, sweep := BitVec.ofNat 32 (2 ^ 32 - 1) }
    let s (n : Nat) (st : ChannelState) : State :=
      { listening with ant := { Ant.initial with mirror := { tracking 0 100 2 with state := st, rejectRun := n } } }
    ((a (some 0)).countSweep (some 2)).sweep = 0 ∧ (a (some 2)).lastFacet = some 2 ∧ (a none).lastFacet = none ∧
      ((s 0 .tracking).handleSample .mirror 167).flags = 1 <<< Event.mirrorHold.id ∧
      ((s 0 .tracking).handleSample .mirror 166).flags = 0 ∧
      ((s 6 .holding).handleSample .mirror 5000).flags = 0 ∧
      ((s 7 .holding).handleSample .mirror 5000).flags = 1 <<< Event.angleFault.id := by
  decide +kernel

theorem witness_PulseIsAcceptedAtTheTail :
    let s := runWith [pulse 0 100]
    let full := runWith (List.replicate 128 (pulse 0 100))
    (s.ant.mirror.usable && s.ant.azimuth.usable && true) = true ∧
      (listening.ant.mirror.usable && listening.ant.azimuth.usable && true) = false ∧
      ({ mirror := none, azimuth := some 0, boundary := false } : Handoff).mirror = none ∧
      s.emq.laterThanTail 100 = false ∧ s.emq.laterThanTail 101 = true ∧ (runWith []).emq.laterThanTail 0 = true ∧
      128 ≤ full.emq.queue.length ∧ full.emq.laterThanTail 101 = true := by decide +kernel

theorem witness_HeadIsEvictedOrClosed :
    let s := at_ 100001 (runWith [pulse 0 0])
    s.emq.run = .running ∧ s.emq.queue = [pulse 0 0] ∧ s.hlr.streamTime = some 100001 ∧ s.cmi.reading = none ∧
      (s.bankFor (pulse 0 0)).listenTicks < ((100001 : Timestamp) - 0).toNat ∧
      (runAs .draining s).emq.run = .draining ∧
      (at_ 100000 (runWith [pulse 0 0])).expired (pulse 0 0) = false ∧ (runWith []).emq.queue = [] := by decide +kernel

/-- R170: one record closes a batch of 31 and not one of 30. -/
theorem witness_ClosesPassTheirRecords :
    let s (n : Nat) : State :=
      { runAs .draining (runWith [pulse 0 0]) with rlf := { Rlf.initial with batch := List.replicate n (point 5 6) } }
    (runAs .draining (runWith [pulse 0 0])).emq.queue = pulse 0 0 :: [] ∧
      ((runAs .draining (runWith [pulse 0 0])).closeHead false).emq.run = .stopped ∧
      ((runAs .draining (runWith [pulse 0 0, pulse 1 5])).closeHead false).emq.run = .draining ∧
      (runWith [pulse 0 0]).cmi.reading = none ∧
      ((s 30).passRecord (point 7 8)).rlf.batch.length = 31 ∧ ((s 31).passRecord (point 7 8)).rlf.batch = [] ∧
      ((s 31).passRecord (point 7 8)).rlf.buffer.map (fun f => f.payload.size) = [1024] := by decide +kernel

theorem witness_ResyncFlushesTheQueue :
    listening.takes ∧ (runWith [pulse 0 5]).emq.run = .running ∧ (inRun .draining).emq.run = .draining ∧
      (inRun .waiting).emq.run = .waiting ∧ listening.emq.run = .stopped ∧
      (ResyncReason.timeJump = .command ∨ ResyncReason.timeJump = .timeJump) ∧
      ¬(ResyncReason.linkLost = .command ∨ ResyncReason.linkLost = .timeJump) :=
  ⟨listening_takes, rfl, rfl, rfl, rfl, by decide, by decide⟩

theorem ready_runWith (q : List Pulse) : (runWith q).ready :=
  ⟨rfl, rfl, fun t h => by cases t <;> first | rfl | exact absurd rfl h⟩

theorem witness_StartAndStop :
    listening.takes ∧ listening.emq.run = .stopped ∧ ¬listening.ready ∧
      (runAs .stopped (runWith [])).takes ∧ (runAs .stopped (runWith [])).emq.run = .stopped ∧
      (runAs .stopped (runWith [])).ready ∧ (inRun .draining).takes ∧ (inRun .draining).emq.run = .draining ∧
      (runWith [pulse 0 5]).takes ∧ (runWith [pulse 0 5]).emq.run = .running ∧ (runWith [pulse 0 5]).emq.queue ≠ [] ∧
      (runWith []).takes ∧ (runWith []).emq.queue = [] ∧ (inRun .waiting).takes ∧ (inRun .waiting).emq.run = .waiting :=
  ⟨listening_takes, rfl, fun h => absurd h.1 (by decide), ⟨⟨rfl, rfl⟩, rfl, rfl⟩, rfl, ready_runWith [], ⟨⟨rfl, rfl⟩, rfl, rfl⟩,
    rfl, runWith_takes _, rfl, by decide, runWith_takes _, rfl, ⟨⟨rfl, rfl⟩, rfl, rfl⟩, rfl⟩

theorem witness_RunStateMovesByItself :
    (runAs .waiting (runWith [])).emq.run = .waiting ∧ (runAs .waiting (runWith [])).ready ∧
      ¬(listening.emq.run = .waiting ∧ listening.ready) ∧
      (runAs .draining (runWith [])).emq.run = .draining ∧ (runAs .draining (runWith [])).emq.queue = [] ∧
      ¬((runAs .draining (runWith [pulse 0 5])).emq.run = .draining ∧ (runAs .draining (runWith [pulse 0 5])).emq.queue = []) :=
  ⟨rfl, ready_runWith [], fun h => absurd h.1 (by decide), rfl, rfl, by decide⟩

/-- R57: tof 100,000 is a candidate, tof 100,001 is not. -/
theorem witness_CandidatesAreNumberedFromTheYoungest :
    ((runWith [pulse 0 0, pulse 1 7, pulse 2 100001]).candidates 100000).map (fun c => (c.place, c.zone)) =
        [(1, 0), (0, 1)] ∧
      ((runWith [pulse 0 0]).candidates 100001).length = 0 := by decide +kernel

/-- A policy in every sector. -/
def withPolicy (p : ZonePolicy) (s : State) : State :=
  { s with tbs := { s.tbs with bankActive := { bank46 with zonePlan := List.replicate 64 ⟨0, 4000000, 3, p⟩ } } }

/-- Echo 1,100,000 of section 4.6: pulses at 1,050,000 and 1,020,000 are both acceptable. -/
theorem witness_AcceptableCandidatesDecideTheEcho :
    let q := [pulse 0 1020000, pulse 1 1050000]
    ((runWith []).acceptables 1100000 0).length = 0 ∧ ((runWith [pulse 0 1050000]).acceptables 1100000 0).length = 1 ∧
      ([ZonePolicy.nearest, .farthest, .track, .discard].all fun p =>
        ((withPolicy p (runWith q)).acceptables 1100000 0).length == 2 &&
          ((withPolicy p (runWith q)).acceptables 1100000 0).all fun a =>
            decide ((sectorEntry ((withPolicy p (runWith q)).bankFor a.cand.pulse) a.cand.pulse).policy = p)) = true ∧
      (runWith q).cmi.reading = none := by decide +kernel

theorem witness_PlacementKeepsTheNearestEchoes :
    let p := { pulse 0 0 with echoes := [entry 5 1 1, entry 9 1 1] }
    p.echoes.Pairwise (fun a b => a.range ≤ b.range) ∧ p.echoes.length ≤ 2 ∧ p.echoes.length < 3 ∧
      ((p.place 1 3 (entry 5 2 2)).1.echoes.map EchoEntry.amplitude = [1, 2, 1]) ∧
      ((p.place 1 2 (entry 5 2 2)).1.echoes.map EchoEntry.amplitude = [1, 2]) ∧
      (p.place 0 2 (entry 5 2 2)).2 = (false, true) := by decide

theorem witness_RangesStayInBounds :
    rangeOf bank46 319 0 10 = none ∧ rangeOf bank46 320 0 10 = some 0 ∧ (bank46.k ≤ 1700000 ∧ -32768 ≤ bank46.z0) ∧
      (∀ w ∈ bank46.walk, -32768 ≤ w ∧ w ≤ 32767) ∧ walkAt bank46 4031 = -12 ∧ walkAt bank46 4032 = -12 := by
  decide +kernel

theorem witness_PoliciesChooseFromTheAcceptableSet :
    let a := withPositions [entry 5 7 1, entry 5 7 1, entry 9 3 2]
    let all (n : Nat) : PolicyEntry := ⟨.all, n, 8, 0, 0, 1023, .near, false⟩
    strongest .near a = some (1, entry 5 7 1) ∧ strongest .far a = some (2, entry 5 7 1) ∧ a ≠ [] ∧
      a.Pairwise (fun u v => u.1 < v.1) ∧ (all 3).policy = .all ∧ a.length ≤ max 1 (all 3).outMax ∧
      max 1 (all 2).outMax < a.length ∧ max 1 (all 0).outMax < a.length ∧
      (chooseEchoes (all 2) a).map Prod.fst = [1, 3] ∧ (chooseEchoes (all 0) a).map Prod.fst = [3] ∧ 2 ≤ a.length ∧
      ([] : List Placed).length ≤ 1 := by decide +kernel

theorem witness_ClosedPulseYieldsItsRecords :
    let p : PolicyEntry := ⟨.all, 1, 8, 2, 0, 1023, .near, true⟩
    (pulseRecords { p with policy := .last } { pulse 0 0 with echoes := [entry 5 2 1, entry 6 2 1] } false).map
        PointRecord.echoIndex = [2] ∧
      acceptableSet p [entry 5 1 1] = [] ∧ acceptableSet p [entry 5 2 1] ≠ [] ∧ p.missReport = true ∧
      ({ p with missReport := false } : PolicyEntry).missReport = false ∧
      listening.ptf.lastSweep ≠ some (pulse 0 0).sweep ∧
      ({ listening with ptf := ⟨some 7⟩ } : State).ptf.lastSweep = some (pulse 0 0).sweep := by decide +kernel

theorem witness_LayoutsHaveTheirLengths :
    (7 < 8 ∧ Params.initial.statusSelect.length = 8) ∧ summaryOf Params.initial.statusSelect (1#24 <<< 21) = 0x80 := by
  decide +kernel

theorem witness_TableWriteIsCheckedInOrder :
    listening.takes ∧ (List.replicate 1022 (0 : Byte)).length ≤ 1022 := ⟨listening_takes, by decide +kernel⟩

/-- RMAX of a ZONE_PLAN entry clamps; one at its range reads back; a policy byte of 4 refuses (section 11.5). -/
theorem witness_EntriesAreClampedAsTheyAreRead :
    let zone (rmax policy : Nat) : List Byte := beBytes 4 7 ++ beBytes 4 rmax ++ [3] ++ beBytes 1 policy
    (zone 9 3).length = TableId.entryLength .zonePlan ∧
      readEntry .zonePlan 0 (zone (2 ^ 28 - 1) 3) = some (⟨7, 2 ^ 28 - 1, 3, .discard⟩, false) ∧
      readEntry .zonePlan 0 (zone (2 ^ 28) 3) = some (⟨7, 2 ^ 28 - 1, 3, .discard⟩, true) ∧
      readEntry .zonePlan 0 (zone 9 4) = none ∧
      ((readEntries .walk 31 2 0 [0, 5, 0xFF, 0xFF]).map fun es => es.map Prod.fst) = some [31, 0] := by decide +kernel

theorem witness_WritesWrapInTheirSegment :
    segmentIndex .elevCorr 30 1 = 31 ∧ segmentIndex .elevCorr 30 2 = 0 ∧ segmentIndex .rangeConst 3 2 = 0 ∧
      segmentIndex .echoPolicy 0 1 = 0 ∧ 30 < TableId.entries .elevCorr := by decide

theorem witness_CommitsAndCancelsOfTables :
    listening.takes ∧ commitFailure { Bank.zero with rangeConst := [1, 0, 5, 4, 1] } .rangeConst = some 2 ∧
      commitFailure { Bank.zero with zonePlan := (Bank.zero.zonePlan.set 2 ⟨5, 4, 0, .track⟩).set 3 ⟨5, 4, 0, .track⟩ }
        .zonePlan = some 2 :=
  ⟨listening_takes, by decide +kernel, by decide +kernel⟩
theorem witness_TableStateAndProtection : listening.takes := listening_takes

theorem witness_GenerationSwitchTakesThePendingTables :
    let s := { runWith [pulse 0 5] with tbs := { Tbs.initial with stagedStatus := PerTable.const .pending } }
    s.tbs.stagedStatus.get .walk = .pending ∧ (∀ p ∈ s.emq.queue, p.gen = s.tbs.generation) ∧
      ¬(∃ t : TableId, listening.tbs.stagedStatus.get t = .pending) :=
  ⟨rfl, by decide, fun ⟨t, h⟩ => by cases t <;> cases h⟩

theorem witness_TableReadFetchesAndAnswers :
    listening.takes ∧ listening.cmi.reading = none ∧ (readingWith 0 []).cmi.reading = some (read2 0) ∧
      (read2 0).done < (read2 0).count ∧ (read2 0).done + 1 < (read2 0).count ∧ (read2 1).done < (read2 1).count ∧
      (read2 1).done + 1 = (read2 1).count ∧ ¬(∃ r : Reading, listening.cmi.reading = some r ∧ r.done < r.count) ∧
      ¬(∃ r : Reading, (readingWith 2 []).cmi.reading = some r ∧ r.done < r.count) :=
  ⟨listening_takes, rfl, rfl, by decide, by decide, by decide, rfl, fun ⟨_, h, _⟩ => (by cases h),
    fun ⟨_, h, h'⟩ => absurd h' (by cases h; decide)⟩

theorem witness_FrozenProtectionStays :
    let s : State :=
      { listening with
        tbs := { Tbs.initial with protection := ⟨4, 3, false, .frozen⟩ }, pending := [.setProtect 1 [0, 0, 0, 0] high] }
    let idle : State :=
      { s with pending := [], cmi := { reading := none, queue := [⟨1, 0x0C, [0, 0, 0, 0]⟩] } }
    (s.tbs.protection.mode = .frozen ∧ (∀ l rest, s.pending ≠ .powerOnReset l :: rest) ∧ ∃ t, step s = .next t) ∧
      idle.tbs.protection.mode = .frozen ∧ (∀ l rest, idle.pending ≠ .powerOnReset l :: rest) ∧
      ∃ t, step idle = .next t :=
  ⟨⟨rfl, fun _ _ h => (by cases h), _, rfl⟩, rfl, fun _ _ h => (by cases h), _, rfl⟩

theorem witness_TileIsMatchedToItsExposure :
    let s := exposing [exposure 5] [] none
    let full := exposing [exposure 5] [tile 1, tile 2, tile 3, tile 4] none
    let fits (status : TileStatus) (cols rows : Byte) (cells : List Rgb) : Prop :=
      (1 ≤ cols.toNat ∧ cols.toNat ≤ 32 ∧ 1 ≤ rows.toNat ∧ rows.toNat ≤ 64) ∧
        cells.length = if status = .ok then cols.toNat * rows.toNat else 0
    s.listens ∧ s.variant = .p4c ∧ fits .ok 1 1 [⟨1, 2, 3⟩] ∧ fits .failed 1 1 [] ∧ fits .busy 32 64 [] ∧ ¬fits .ok 1 1 [] ∧
      (s.exu.queue.find? fun r => decide (r.number = 6)) = none ∧
      (s.exu.queue.find? fun r => decide (r.number = 5)) = some (exposure 5) ∧ s.exu.tiles.length < 4 ∧
      4 ≤ full.exu.tiles.length :=
  ⟨⟨rfl, rfl⟩, rfl, by decide, by decide, by decide, by decide, by decide, by decide, by decide, by decide⟩

theorem witness_SpanEndsReleaseRecordsAndTiles :
    let s := exposing [exposure 5] [tile 6] (some 1499)
    (s.variant = .p4c ∧ s.params.camEnable = true ∧ s.emq.run = .running) ∧
      crossedFrom (spanEnd 1000 500) s.exu.prevLaser 1500 = true ∧
      crossedFrom (spanEnd 1000 500) s.exu.prevLaser 1499 = false ∧
      ¬(listening.variant = .p4c ∧ listening.params.camEnable = true ∧ listening.emq.run = .running) := by decide +kernel

/-- A plan of 64 entries with targets 1000, 2000, 3000 and so on, of which entries 1, 5 and 63 are enabled. -/
def planBank : Bank :=
  { Bank.zero with
    exposurePlan :=
      (List.range 64).map fun n =>
        ⟨1, BitVec.ofNat 24 (1000 * (n + 1)), 500, -10, 10, decide (n = 1 ∨ n = 5 ∨ n = 63)⟩ }

/-- A part that exposes by that plan. -/
def planned (pointer : Option Nat) (seek : Bool) (prev : Option Azimuth) : State :=
  { exposing [] [] none with
    exu := { Exu.initial with pointer := pointer, seek := seek, prevLead := prev }
    tbs := { Tbs.initial with bankActive := planBank } }

/-- R131: strictly ahead of 2000 lies entry 5 and at the lead stands a whole lap. R132, R134: from 1,999 to 6,000 the targets of
entries 1 and 5 are crossed, the first makes an exposure and the second is missed. -/
theorem witness_ExposureWorkFollowsThePlan :
    let v : PulseView := ⟨0, 6000, 0⟩
    let s := planned (some 1) false (some 1999)
    (s.variant = .p4c ∧ s.params.camEnable = true ∧ s.emq.run = .running) ∧ listening.params.camEnable = false ∧
      s.exu.seek = false ∧ (planned none true none).exu.seek = true ∧
      ((planned none true none).seekPlan 2000).exu.pointer = some 5 ∧
      ((planned none true none).seekPlan 64000).exu.pointer = some 1 ∧
      planBank.exposurePlan.length = 64 ∧ nextEnabled planBank.exposurePlan 63 = some 1 ∧
      nextEnabled planBank.exposurePlan 5 = some 63 ∧ listening.exu.prevLead = none ∧ s.exu.prevLead = some 1999 ∧
      listening.exu.pointer = none ∧
      ((6000 : Azimuth) - 2000).toNat < 2 ^ 23 ∧ 2 ^ 23 ≤ ((1999 : Azimuth) - 2000).toNat ∧
      (let t := s.comparePlan 6000 v
       t.exu.queue.map Exposure.planEntry = [1] ∧ t.exu.pointer = some 63 ∧ t.flags = 1 <<< Event.exposureMissed.id) ∧
      ((s.comparePlan 1999 v).exu.pointer = some 1) := by decide +kernel

theorem witness_ExposureTakesAFreshNumber :
    let x : Exu :=
      { Exu.initial with
        queue := (List.range 8).map (fun n => exposure (BitVec.ofNat 16 (n + 1)))
        tiles := (List.range 4).map (fun n => tile (BitVec.ofNat 16 (n + 9))) }
    x.queue.length ≤ 8 ∧ x.tiles.length ≤ 4 ∧ x.nextNumber = 13 := by decide +kernel

theorem witness_CoveredDirectionsHaveACell :
    (tile 1).covers 1000 (-10) = true ∧ (tile 1).covers 1499 10 = true ∧ (tile 1).covers 1500 10 = false ∧
      (tile 1).cells.length = (tile 1).cols * (tile 1).rows ∧
      ((exposing [] [tile 1] none).lookupColour ⟨0, 1200, 0⟩) = some ⟨⟨1, 2, 3⟩, 1⟩ := by decide +kernel

theorem witness_TriggerIsSetAndArmed :
    let args (lo index : Nat) : List Byte := [1, 7, 2, 1, 0, 3] ++ beBytes 4 lo ++ beBytes 4 9 ++ [0, 0, 0, 0] ++
      beBytes 1 index ++ beBytes 4 5 ++ beBytes 4 9 ++ [0, 0, 0, 0, 8]
    listening.takes ∧ (args 9 8).length = 32 ∧ (readTrigger (args 9 8)).isSome = true ∧ readTrigger (args 10 8) = none ∧
      readTrigger (args 9 9) = none ∧ listening.tru.state = .off ∧ (triggered .l1Hit).takes ∧
      (triggered .l1Hit).tru.state ≠ .off :=
  ⟨listening_takes, by decide, by decide +kernel, by decide +kernel, by decide +kernel, rfl, ⟨⟨rfl, rfl⟩, rfl, rfl⟩, by decide⟩

theorem witness_TriggerAndCaptureAreRead :
    (triggered .l2Hit).takes ∧ (triggered .l2Hit).tru.state = .l2Hit ∧ listening.takes ∧
      ¬(listening.tru.state = .l1Hit ∨ listening.tru.state = .l2Hit) ∧ listening.tru.capState = .empty ∧
      (let s (c : CaptureState) : State := { listening with tru := { Tru.initial with capState := c } }
       (s .full).takes ∧ (s .full).tru.capState = .full ∧ (s .filling).takes ∧ (s .filling).tru.capState = .filling) :=
  ⟨⟨⟨rfl, rfl⟩, rfl, rfl⟩, rfl, listening_takes, by decide, rfl, ⟨⟨rfl, rfl⟩, rfl, rfl⟩, rfl, ⟨⟨rfl, rfl⟩, rfl, rfl⟩, rfl⟩

theorem witness_TriggerTestsARecord :
    let t (st : TriggerState) (m : TriggerMode) (w : Nat) : Tru :=
      { Tru.initial with
        state := st, window := w
        config :=
          { TriggerConfig.initial with
            mode := m, condA := { Condition.openValues with amplitudeMin := 9 }
            condB := { Condition.openValues with amplitudeMin := 9 } } }
    (t .waitL1 .one 0).config.condA.meets (point 5 9) = true ∧ (t .waitL1 .two 0).config.condA.meets (point 5 8) = false ∧
      (t .waitL2 .two 2).config.condB.meets (point 5 8) = false ∧ 2 ≤ (t .waitL2 .two 2).window ∧
      (t .waitL2 .two 1).window = 1 ∧ ((t .waitL2 .two 1).test (point 5 8)).1.state = .waitL1 ∧
      ((t .waitL2 .two 2).test (point 5 8)).1.window = 1 ∧ ((t .waitL2 .two 1).test (point 5 9)).2 = true ∧
      ((triggered .waitL2).tru.state = .waitL2 ∧ (triggered .waitL2).tru.window = 0) ∧
      ¬(listening.tru.state = .waitL2 ∧ listening.tru.window = 0) ∧
      ¬(listening.tru.capState = .filling ∧ listening.tru.toGo = 0) := by decide +kernel

/-- R162, R164: a hit begins a capture of the history and itself, with 15 records to go; the next record joins it with the mark
that remains. -/
theorem test_record_passes_the_trigger :
    let s : State :=
      { listening with
        tru :=
          { Tru.initial with
            state := .waitL1
            config := { TriggerConfig.initial with respMark := true, respCapture := true, markCount := 1 }
            history := [point 1 1] } }
    let t := (s.triggerPass (point 2 2)).1
    (s.triggerPass (point 2 2)).2.mark = true ∧ t.tru.capture.length = 2 ∧ t.tru.toGo = 15 ∧ t.tru.hitPos = 2 ∧
      t.tru.hits = 1 ∧ (t.triggerPass (point 3 3)).2.mark = true ∧ (t.triggerPass (point 3 3)).1.tru.capture.length = 3 ∧
      (t.triggerPass (point 3 3)).1.tru.marks = 0 := by decide +kernel

/-- A PTS of 32 records is 1,032 bytes: 18 fit outside the reserve, and a 19th does not (section 9.5). -/
theorem witness_FramesAreAdmittedOrRefused :
    let p : Payload := .pts (List.replicate 32 (point 5 6))
    let s (n : Nat) : State := { listening with rlf := { Rlf.initial with buffer := List.replicate n ⟨p, 0, false, 0⟩ } }
    p.frameLength = 1032 ∧ (s 17).rlf.waiting = [] ∧
      (s 17).otherBytes + max (s 17).rspBytes 5120 + p.frameLength ≤ 24576 ∧
      ¬((s 18).otherBytes + max (s 18).rspBytes 5120 + p.frameLength ≤ 24576) ∧
      (s 18).bufferBytes + (Payload.rsp (answerSized 0)).frameLength ≤ 24576 ∧
      ¬((s 23).bufferBytes + (Payload.rsp (answerSized 1024)).frameLength ≤ 24576) := by decide +kernel

theorem witness_DeparturesAndBatchAge :
    let full : State :=
      { listening with
        rlf :=
          { Rlf.initial with
            buffer := List.replicate 24 (frameOf (.rsp (answerSized 1012))), waiting := [answerSized 0]
            departing := true } }
    let some_ : State := { listening with rlf := { Rlf.initial with waiting := [answerSized 0] } }
    let old (t : Timestamp) : State := { at_ t listening with rlf := { Rlf.initial with batch := [point 5 6] } }
    full.rlf.departing = true ∧ listening.rlf.departing = false ∧ listening.rlf.waiting = [] ∧
      full.fitsFreeSpace (.rsp (answerSized 0)) = false ∧ some_.fitsFreeSpace (.rsp (answerSized 0)) = true ∧
      (old 64000003).params.batchFlush < ((64000003 : Timestamp) - (point 5 6).tFire).toNat ∧
      ((64000002 : Timestamp) - (point 5 6).tFire).toNat ≤ (old 64000002).params.batchFlush ∧
      (old 64000003).rlf.batch ≠ [] ∧ listening.rlf.batch = [] ∧ listening.hlr.streamTime = none := by decide +kernel

theorem witness_EventsAreReadAndCleared :
    listening.takes ∧ held.pins.resetHeld = true ∧ listening.pins.resetHeld = false := ⟨listening_takes, rfl, rfl⟩

theorem witness_CommandsAreTakenQueuedOrRefused :
    recordOf (.identify 1 []) = some (.cmd (cmd 1 0x01), none) ∧ (cmd 1 0x01).args.length ≤ 1024 ∧ listening.listens ∧
      listening.cmi.reading = none ∧ listening.cmi.queue = [] ∧
      (readingWith 0 [cmd 1 1, cmd 2 1, cmd 3 1]).listens ∧ (readingWith 0 []).cmi.reading ≠ none ∧
      (readingWith 0 [cmd 1 1, cmd 2 1, cmd 3 1]).cmi.queue.length < 4 ∧
      4 ≤ (readingWith 0 [cmd 1 1, cmd 2 1, cmd 3 1, cmd 4 1]).cmi.queue.length ∧
      (let s : State := { listening with cmi := { reading := none, queue := [cmd 1 1] } }
       s.listens ∧ s.cmi.reading = none ∧ s.cmi.queue = cmd 1 1 :: []) ∧
      (read2 1).done < (read2 1).count ∧ (read2 2).count ≤ (read2 2).done ∧ listening.takes ∧
      20 < (0x15 : Byte).toNat ∧ (0x00 : Byte).toNat = 0 ∧
      (let c : Command := ⟨1, 0x14, [0]⟩
       ¬(c.args = [] ∧ (c.code = 0x02#8 ∨ c.code = 0x14#8))) ∧
      ¬((cmd 1 1).args = [] ∧ ((cmd 1 1).code = 0x02#8 ∨ (cmd 1 1).code = 0x14#8)) ∧ ([1] : List Byte).length ≠ 0 ∧ ([1] : List Byte).length ≠ 4 ∧
      ([1] : List Byte).length < 2 :=
  ⟨rfl, by decide, listening_takes.1, rfl, rfl, ⟨rfl, rfl⟩, by decide, by decide, by decide, ⟨⟨rfl, rfl⟩, rfl, rfl⟩, by decide,
    by decide, listening_takes, by decide, by decide, by decide, by decide, by decide, by decide, by decide⟩

/-- R185, R186: a CMD behind a waiting command joins the queue though no read is in execution. -/
theorem test_command_joins_the_queue :
    let s : State := { listening with cmi := { reading := none, queue := [cmd 1 1] } }
    (s.deliverCommand (cmd 2 1)).cmi.queue = [cmd 1 1, cmd 2 1] ∧
      (readingWith 0 [cmd 1 1, cmd 2 1, cmd 3 1, cmd 4 1]).deliverCommand (cmd 5 1) =
        (readingWith 0 [cmd 1 1, cmd 2 1, cmd 3 1, cmd 4 1]).respond 5 1 .busy [] := by decide +kernel

theorem witness_IdentityStatusAndParametersAreReported : listening.takes := listening_takes
theorem witness_SetParamIsCheckedInOrder : listening.takes := listening_takes
theorem witness_ParameterWritesClampAndHold : Params.initial.statusSelect.length = 8 := rfl

/-! ### Witnesses of the invariants: a running part that meets them, and the step it makes -/

/-- A running part with two pulses, one holding an echo, and a TICK waiting. -/
def witnessState : State :=
  { runWith [{ pulse 0 1000 with echoes := [entry 900000 5 5] }, pulse 1 2000] with
    eca := { Eca.initial with free := 511 }
    tbs :=
      { Tbs.initial with
        bankActive := bank46, staged := bank46, activeStatus := PerTable.const .valid, stagedStatus := PerTable.const .clean }
    pending := [.tick 3000] }

theorem witness_step : ∃ t, step witnessState = .next t := ⟨_, rfl⟩

theorem witness_PoolAndAccountsBalance : witnessState.poolBalanced ∧ witnessState.accountsBalance :=
  ⟨by unfold State.poolBalanced; decide +kernel, by unfold State.accountsBalance; decide +kernel⟩

theorem witness_QueueStaysInOrder : witnessState.queueInOrder :=
  ⟨by decide, by simp [witnessState, runWith, Follows, pulse]; decide, by simp [witnessState, runWith, pulse], by
    rintro (h | h) <;> cases h⟩

theorem witness_PulsesStayServed : witnessState.pulsesServed := by
  refine ⟨?_, by rintro (h | h) <;> cases h⟩
  intro p hp
  have : p = { pulse 0 1000 with echoes := [entry 900000 5 5] } ∨ p = pulse 1 2000 := by
    simpa [witnessState, runWith] using hp
  rcases this with rfl | rfl
  · refine ⟨by decide, by simp, by decide +kernel, ?_, by decide⟩
    intro e he
    have : e = entry 900000 5 5 := by simpa using he
    subst this
    exact ⟨by decide +kernel, by decide +kernel, by decide +kernel⟩
  · exact ⟨by decide, by simp [pulse], by decide +kernel, by simp [pulse], by decide⟩

theorem witness_BanksStayInAgreement : witnessState.banksAgree :=
  ⟨fun t => by cases t <;> decide +kernel, fun t => by cases t <;> decide +kernel, fun t => by cases t <;> decide +kernel,
    fun t => ⟨fun _ => by cases t <;> rfl, fun h => by cases t <;> cases h⟩⟩

theorem witness_ExposuresStayDistinct : (exposing [exposure 1] [tile 2] none).exposuresDistinct :=
  ⟨by decide, by decide, by decide +kernel, by intro h; cases h⟩

theorem witness_TriggerStaysConsistent : (triggered .waitL1).tru.consistent := by
  simp [Tru.consistent, Tru.windowFits, Tru.captureFits, triggered, Tru.initial, TriggerConfig.initial]

/-- A buffer with a leaving frame. -/
theorem witness_FramerStaysConsistent :
    State.framerConsistent
      { listening with rlf := { Rlf.initial with buffer := [frameOf (.swp 1 2 3)], departing := true } } := by
  refine ⟨by decide +kernel, by decide +kernel, by decide, by simp [Rlf.initial], by simp, by simp, ?_, by decide⟩
  intro f hf
  have : f = frameOf (.swp 1 2 3) := by simpa using hf
  subst this
  exact ⟨by decide +kernel, by intro h; cases h⟩

theorem witness_CommandsStayConsistent : (readingWith 1 [cmd 1 1, cmd 2 1, cmd 3 1, cmd 4 1]).commandsConsistent :=
  ⟨by decide, by decide, by decide, by decide⟩

theorem witness_TrackerStaysConsistent : witnessState.trackerConsistent := by
  simp [State.trackerConsistent, Hlr.consistent, Params.inRange, Channel.consistent, witnessState, runWith, listening,
    State.reset, State.powerOn, Params.initial, Hlr.initial, tracking, Channel.initial, Ant.initial]

end Sys2Proof.Machine.Tests
end

section
/-! PROOFS. The receiver, the two channels, the last facet and the parameters keep their ranges (O59). -/

namespace Sys2Proof.Machine

/-! ### The receiver (R2, R4, R7) -/

theorem satSucc_le {limit n : Nat} (h : n ≤ limit) : satSucc limit n ≤ limit := by
  unfold satSucc; split <;> omega

theorem Hlr.initial_consistent : Hlr.initial.consistent := by simp [Hlr.consistent, Hlr.initial]

/-- R2: a passing frame in HUNT is counted, and the second leaves no run behind in SYNC. -/
theorem Hlr.consistent.huntPass {h : Hlr} (hc : h.consistent) (hl : h.link = .hunt) : h.huntPass.consistent := by
  obtain ⟨_, hbad, _, hhunt, hrej⟩ := hc
  unfold Hlr.huntPass
  split
  · exact ⟨by dsimp only; omega, hbad, by simp [hl], hhunt, hrej⟩
  · exact ⟨by simp, by simp, fun _ => rfl, fun _ => rfl, hrej⟩

/-- R3: a passing frame in SYNC returns the bad run to 0. -/
theorem Hlr.consistent.passed {h : Hlr} (hc : h.consistent) : ({ h with badRun := 0 } : Hlr).consistent := by
  obtain ⟨hgood, _, hsync, _, hrej⟩ := hc
  exact ⟨hgood, by simp, hsync, fun _ => rfl, hrej⟩

/-- R7: the count of refused frames saturates. -/
theorem Hlr.consistent.reject {h : Hlr} (hc : h.consistent) :
    ({ h with rejected := satSucc 65535 h.rejected } : Hlr).consistent := by
  obtain ⟨hgood, hbad, hsync, hhunt, hrej⟩ := hc
  exact ⟨hgood, hbad, hsync, hhunt, satSucc_le hrej⟩

/-- R8: stream time is no part of the runs. -/
theorem Hlr.consistent.setTime {h : Hlr} (hc : h.consistent) (t : Option Timestamp) :
    ({ h with streamTime := t } : Hlr).consistent := hc

/-! ### One channel (R20 to R25) -/

theorem Channel.initial_consistent (bits : Nat) : Channel.initial.consistent bits := by
  have hp : (0 : Int) < 2 ^ (bits - 1) := by positivity
  refine ⟨by simp [Channel.initial], by simp [Channel.initial], by simp [Channel.initial], ⟨?_, ?_⟩, ?_⟩ <;>
    simp [Channel.initial]

/-- R23: a predicted count is a B-bit count. -/
theorem Channel.predicted_lt (c : Channel) (bits : Nat) : c.predicted bits < 2 ^ bits := by
  have hp : (0 : Int) < 2 ^ bits := by positivity
  have hlt := Int.emod_lt_of_pos ((c.last : Int) + c.step * ((c.rejectRun : Int) + 1)) hp
  have hge := Int.emod_nonneg ((c.last : Int) + c.step * ((c.rejectRun : Int) + 1)) hp.ne'
  unfold Channel.predicted
  zify
  rw [Int.toNat_of_nonneg hge]
  exact hlt

/-- R23: a step spread over the samples since the last valid one stays a signed B-bit value. -/
theorem ediv_mem_symmetric {M d : Int} (hM : 0 < M) (n : Nat) (hlo : -M ≤ d) (hhi : d < M) :
    -M ≤ d / ((n : Int) + 1) ∧ d / ((n : Int) + 1) < M := by
  have hk : (0 : Int) < (n : Int) + 1 := by omega
  rw [Int.le_ediv_iff_mul_le hk, Int.ediv_lt_iff_lt_mul hk]
  constructor <;> nlinarith

/-- R20, R21: an index count becomes the reference. -/
theorem Channel.consistent.restart {c : Channel} {bits count : Nat} (hc : c.consistent bits) (hx : count < 2 ^ bits) :
    (c.restart count).consistent bits := by
  obtain ⟨_, hlast, hused, hstep, _, _, _, _, _⟩ := hc
  exact ⟨hx, hlast, hused, hstep, by simp [Channel.restart]⟩

/-- R20, R21: an INDEX leaves its channel alone or restarts it. -/
theorem Channel.atIndex_cases (c : Channel) (bits margin count : Nat) :
    c.atIndex bits margin count = (c.restart count, false) ∨ c.atIndex bits margin count = (c.restart count, true) ∨
      c.atIndex bits margin count = (c, false) := by
  unfold Channel.atIndex
  cases c.state <;> cases c.slips bits margin count <;> simp

theorem Channel.consistent.atIndex {c : Channel} {bits count : Nat} (hc : c.consistent bits) (margin : Nat)
    (hx : count < 2 ^ bits) : (c.atIndex bits margin count).1.consistent bits := by
  rcases c.atIndex_cases bits margin count with h | h | h <;> rw [h]
  · exact hc.restart hx
  · exact hc.restart hx
  · exact hc

/-- R23, R25: a valid sample; the state it leaves is any but HOLDING. -/
theorem Channel.consistent.takeValid {c : Channel} {bits x : Nat} (hc : c.consistent bits) (hb : 1 ≤ bits)
    (hx : x < 2 ^ bits) {st : ChannelState} (hst : st ≠ .holding) {g : Nat} (hg : g ≤ 3) :
    ({ c.takeValid bits x with state := st, goodRun := g } : Channel).consistent bits := by
  obtain ⟨href, _, _, _, hsamples, _, _, _, _⟩ := hc
  obtain ⟨hlo, hhi⟩ := signedMod_range bits hb ((x : Int) - (c.last : Int))
  exact ⟨href, hx, hx, ediv_mem_symmetric (by positivity) c.rejectRun hlo hhi, hsamples, hg,
    by simp [Channel.takeValid], fun _ => rfl, fun h => absurd h hst⟩

/-- R24, R25: a rejected sample; a channel it leaves in HOLDING has 1..7 rejections. -/
theorem Channel.consistent.takeRejected {c : Channel} {bits : Nat} (hc : c.consistent bits) {st : ChannelState}
    (hst : st ≠ .tracking) (hrun : st = .holding → c.rejectRun < 7) {g : Nat} (hg : g ≤ 3) :
    ({ c.takeRejected bits with state := st, goodRun := g } : Channel).consistent bits := by
  obtain ⟨href, hlast, _, hstep, hsamples, _, hreject, _, _⟩ := hc
  refine ⟨href, hlast, c.predicted_lt bits, hstep, hsamples, hg, satSucc_le hreject, fun h => absurd h hst, fun h => ?_⟩
  have := hrun h
  simp only [Channel.takeRejected, satSucc]
  split <;> omega

/-- R22: a sample in ACQUIRING, the first or the one that leads to TRACKING. -/
theorem Channel.consistent.acquire {c : Channel} {bits x : Nat} (hc : c.consistent bits) (hb : 1 ≤ bits)
    (hx : x < 2 ^ bits) (hst : c.state = .acquiring) : (c.acquire bits x).consistent bits := by
  obtain ⟨href, _, _, hstep, hsamples, hgood, hreject, _, _⟩ := hc
  unfold Channel.acquire
  split
  · exact ⟨href, hx, hx, hstep, by simp, hgood, hreject, by simp [hst], by simp [hst]⟩
  · exact ⟨href, hx, hx, signedMod_range bits hb _, hsamples, hgood, by simp, by simp, by simp⟩

/-- R22 to R25: a sample keeps a channel's counts, step and runs in range. -/
theorem Channel.consistent.sample {c : Channel} {bits x : Nat} (hc : c.consistent bits) (hb : 1 ≤ bits) (limit : Nat)
    (hx : x < 2 ^ bits) : (c.sample bits limit x).1.consistent bits := by
  obtain ⟨hgood, htracking⟩ : c.goodRun ≤ 3 ∧ (c.state = .tracking → c.rejectRun = 0) := by
    obtain ⟨_, _, _, _, _, hgood, _, htracking, _⟩ := hc
    exact ⟨hgood, htracking⟩
  unfold Channel.sample
  cases hs : c.state with
  | unlocked => exact hc
  | acquiring => exact hc.acquire hb hx hs
  | tracking =>
    dsimp only
    split
    · exact hc.takeValid hb hx (st := c.state) (by simp [hs]) hgood
    · exact hc.takeRejected (st := .holding) (by simp) (fun _ => by rw [htracking hs]; omega) hgood
  | holding =>
    dsimp only
    split
    · exact hc.takeValid hb hx (st := .tracking) (by simp) hgood
    · split
      · exact hc.takeRejected (st := c.state) (by simp [hs]) (fun _ => by omega) hgood
      · exact hc.takeRejected (st := .fault) (by simp) (by simp) (by omega)
  | fault =>
    dsimp only
    split
    · split
      · exact hc.takeValid hb hx (st := c.state) (by simp [hs]) (by omega)
      · exact hc.takeValid hb hx (st := .tracking) (by simp) (by omega)
    · exact hc.takeRejected (st := c.state) (by simp [hs]) (by simp [hs]) (by omega)

/-! ### The parameters (section 10.6, R191) -/

theorem Params.initial_inRange : Params.initial.inRange := by
  simp [Params.inRange, Params.initial]

theorem clampNat_mem {lo hi : Nat} (h : lo ≤ hi) (v : Nat) : lo ≤ clampNat lo hi v ∧ clampNat lo hi v ≤ hi := by
  unfold clampNat; omega

/-- R181: a StatusSelect entry that is taken names an event id or 31. -/
theorem selectOf_eq_some {w id : Nat} (h : selectOf w = some id) : id ≤ 23 ∨ id = 31 := by
  unfold selectOf at h
  split at h
  · cases h; assumption
  · cases h

theorem Params.inRange.setSelect {p new : Params} (hp : p.inRange) {n w : Nat} (h : p.setSelect n w = some new) :
    new.inRange := by
  obtain ⟨h1, h2, h3, h4, h5, h6, h7, h8, h9, h10, h11, h12, hlen, hsel⟩ := hp
  obtain ⟨id, hid, rfl⟩ := Option.map_eq_some_iff.mp h
  refine ⟨h1, h2, h3, h4, h5, h6, h7, h8, h9, h10, h11, h12, by simpa using hlen, fun m hm => ?_⟩
  rcases List.mem_or_eq_of_mem_set hm with hm | rfl
  · exact hsel m hm
  · exact selectOf_eq_some hid

/-- R191: a write that is taken leaves every parameter in its range or list, Facets 1 never with Deflection 2 (R18). -/
theorem Params.inRange.write {p new : Params} (hp : p.inRange) {id w : Nat} (h : p.write id w = some new) :
    new.inRange := by
  have hset : ∀ n, p.setSelect n w = some new → new.inRange := fun n => hp.setSelect
  obtain ⟨h1, h2, h3, h4, h5, h6, h7, h8, h9, h10, h11, h12, hlen, hsel⟩ := hp
  unfold Params.write at h
  split at h
  case h_1 => cases h; exact ⟨clampNat_mem (by omega) w, h2, h3, h4, h5, h6, h7, h8, h9, h10, h11, h12, hlen, hsel⟩
  case h_2 => cases h; exact ⟨h1, clampNat_mem (by omega) w, h3, h4, h5, h6, h7, h8, h9, h10, h11, h12, hlen, hsel⟩
  case h_3 => cases h; exact ⟨h1, h2, clampNat_mem (by omega) w, h4, h5, h6, h7, h8, h9, h10, h11, h12, hlen, hsel⟩
  case h_4 => cases h; exact ⟨h1, h2, h3, clampNat_mem (by omega) w, h5, h6, h7, h8, h9, h10, h11, h12, hlen, hsel⟩
  case h_5 => cases h; exact ⟨h1, h2, h3, h4, (clampNat_mem (by omega) w).2, h6, h7, h8, h9, h10, h11, h12, hlen, hsel⟩
  case h_6 => cases h; exact ⟨h1, h2, h3, h4, h5, (clampNat_mem (by omega) w).2, h7, h8, h9, h10, h11, h12, hlen, hsel⟩
  case h_7 =>
    split at h
    · rename_i hw
      cases h
      exact ⟨h1, h2, h3, h4, h5, h6, hw.1, h8, hw.2, h10, h11, h12, hlen, hsel⟩
    · cases h
  case h_8 =>
    split at h
    · rename_i hw
      cases h
      exact ⟨h1, h2, h3, h4, h5, h6, h7, hw.1, fun hc => hw.2 hc.symm, h10, h11, h12, hlen, hsel⟩
    · cases h
  case h_11 => cases h; exact ⟨h1, h2, h3, h4, h5, h6, h7, h8, h9, (clampNat_mem (by omega) w).2, h11, h12, hlen, hsel⟩
  case h_12 => cases h; exact ⟨h1, h2, h3, h4, h5, h6, h7, h8, h9, h10, (clampNat_mem (by omega) w).2, h12, hlen, hsel⟩
  case h_13 => cases h; exact ⟨h1, h2, h3, h4, h5, h6, h7, h8, h9, h10, h11, clampNat_mem (by omega) w, hlen, hsel⟩
  case h_27 => cases h
  case h_14 | h_15 | h_16 | h_17 | h_18 | h_19 | h_20 | h_21 => exact hset _ h
  all_goals
    obtain ⟨_, _, rfl⟩ := Option.map_eq_some_iff.mp h
    exact ⟨h1, h2, h3, h4, h5, h6, h7, h8, h9, h10, h11, h12, hlen, hsel⟩

/-! ### The state's four items -/

/-- A state with the receiver, the parameters and the tracker of a consistent one is consistent. -/
theorem State.trackerConsistent.of_eq {s t : State} (h : s.trackerConsistent) (hhlr : t.hlr = s.hlr)
    (hparams : t.params = s.params) (hant : t.ant = s.ant) : t.trackerConsistent := by
  unfold State.trackerConsistent at *
  rw [hhlr, hparams, hant]
  exact h

theorem State.trackerConsistent.receiver {s : State} (h : s.trackerConsistent) : s.hlr.consistent := h.1

theorem State.trackerConsistent.parameters {s : State} (h : s.trackerConsistent) : s.params.inRange := h.2.1

/-- A condition chooses between two consistent states. -/
theorem State.trackerConsistent_ite {p : Prop} [Decidable p] {s t : State} (hs : s.trackerConsistent)
    (ht : t.trackerConsistent) : (if p then s else t).trackerConsistent := by
  split
  · exact hs
  · exact ht

/-- The receiver alone changes. -/
theorem State.trackerConsistent.of_hlr {s t : State} (h : s.trackerConsistent) (hhlr : t.hlr.consistent)
    (hparams : t.params = s.params) (hant : t.ant = s.ant) : t.trackerConsistent := by
  unfold State.trackerConsistent at *
  rw [hparams, hant]
  exact ⟨hhlr, h.2⟩

/-- Each channel is consistent at its own width. -/
theorem State.trackerConsistent.channel {s : State} (h : s.trackerConsistent) (id : ChannelId) :
    (s.ant.channel id).consistent (s.params.bits id) := by
  obtain ⟨_, _, hm, ha, _⟩ := h
  cases id
  · exact hm
  · exact ha

/-- One channel changes. -/
theorem State.trackerConsistent.of_setChannel {s t : State} (h : s.trackerConsistent) {id : ChannelId} {c : Channel}
    (hc : c.consistent (s.params.bits id)) (hhlr : t.hlr = s.hlr) (hparams : t.params = s.params)
    (hant : t.ant = s.ant.setChannel id c) : t.trackerConsistent := by
  obtain ⟨hh, hp, hm, ha, hf⟩ := h
  unfold State.trackerConsistent
  rw [hhlr, hparams, hant]
  cases id
  · exact ⟨hh, hp, hc, ha, hf⟩
  · exact ⟨hh, hp, hm, hc, hf⟩

theorem Params.inRange.one_le_bits {p : Params} (hp : p.inRange) (id : ChannelId) : 1 ≤ p.bits id := by
  obtain ⟨hm, ha, _⟩ := hp
  cases id <;> simp only [Params.bits] <;> omega

/-! ### Resets and parameter writes -/

theorem Ant.initial_consistent (p : Params) :
    Ant.initial.mirror.consistent p.mirrorBits ∧ Ant.initial.azimuth.consistent p.azBits ∧
      ∀ f ∈ Ant.initial.lastFacet, f < p.facets :=
  ⟨Channel.initial_consistent _, Channel.initial_consistent _, by simp [Ant.initial]⟩

theorem State.powerOn_trackerConsistent (v : Variant) (cal rec : Bool) (n : Nat) (is : List Instr) :
    (State.powerOn v cal rec n is).trackerConsistent :=
  ⟨Hlr.initial_consistent, Params.initial_inRange, Ant.initial_consistent _⟩

theorem State.lineReset_trackerConsistent (s : State) : s.lineReset.trackerConsistent :=
  ⟨Hlr.initial_consistent, Params.initial_inRange, Ant.initial_consistent _⟩

theorem State.trackerConsistent.softReset {s : State} (h : s.trackerConsistent) : s.softReset.trackerConsistent := by
  exact ⟨Hlr.initial_consistent, h.parameters, Ant.initial_consistent _⟩

/-- R19: a width that changes resets its channel, and a changed Facets unsets the last facet. -/
theorem State.trackerConsistent.writeParams {s : State} (h : s.trackerConsistent) {new : Params} (hnew : new.inRange) :
    (s.writeParams new).trackerConsistent := by
  obtain ⟨hh, _, hm, ha, hf⟩ := h
  refine ⟨hh, hnew, ?_, ?_, ?_⟩ <;> simp only [State.writeParams, State.onParams_ant, State.onParams_params,
    State.onAnt_ant, Ant.afterWrite]
  · split
    · rename_i hw; rwa [← hw]
    · exact Channel.initial_consistent _
  · split
    · rename_i hw; rwa [← hw]
    · exact Channel.initial_consistent _
  · split
    · rename_i hw; rwa [← hw]
    · simp

/-- R191: SET_PARAM writes a parameter set in range, or nothing. -/
theorem State.trackerConsistent.setParam {s : State} (h : s.trackerConsistent) (args : List Byte) :
    (cmdSetParam args s).state.trackerConsistent := by
  unfold cmdSetParam Reply.ofLength
  split
  · dsimp only
    split
    · exact h
    · split
      · exact h
      · split
        · exact h
        · split
          · exact h
          · rename_i new hnew
            exact h.writeParams (h.parameters.write hnew)
  · exact h

/-! ### Samples, facets and FIRE records -/

theorem State.trackerConsistent.handleIndex {s : State} (h : s.trackerConsistent) (id : ChannelId) (raw : RawCount) :
    (s.handleIndex id raw).trackerConsistent :=
  h.of_setChannel ((h.channel id).atIndex _ (significant_lt _ raw)) (by simp) (by simp) (s.handleIndex_ant id raw)

theorem State.trackerConsistent.handleSample {s : State} (h : s.trackerConsistent) (id : ChannelId) (raw : RawCount) :
    (s.handleSample id raw).trackerConsistent :=
  h.of_setChannel ((h.channel id).sample (h.parameters.one_le_bits id) _ (significant_lt _ raw)) (by simp) (by simp)
    (s.handleSample_ant id raw)

/-- R28: a corrected angle is a 24-bit value. -/
theorem correctedAngle_lt (table : List Int) (r : Nat) : correctedAngle table r < 2 ^ 24 := by
  unfold correctedAngle
  omega

/-- R29: a 24-bit angle stands in one of the facets. -/
theorem facet_lt {facets angle : Nat} (hf : facets = 1 ∨ facets = 2 ∨ facets = 4 ∨ facets = 8) (ha : angle < 2 ^ 24) :
    angle / facetSpan facets < facets := by
  unfold facetSpan
  rcases hf with rfl | rfl | rfl | rfl <;> omega

theorem mirrorAngles_facet_lt {b : Bank} {p : Params} {c : Channel} {m : MirrorAngles} (hp : p.inRange)
    (h : mirrorAngles b p c = some m) : m.facet < p.facets := by
  obtain ⟨_, _, _, _, _, _, hf, _⟩ := hp
  unfold mirrorAngles at h
  split at h
  · cases h
  · cases h
    exact facet_lt hf (correctedAngle_lt _ _)

/-- R33: the last facet after a FIRE is the one formed, or the one before. -/
theorem State.trackerConsistent.countSweep {s t : State} (h : s.trackerConsistent) {facet : Option Nat}
    (hfacet : ∀ f ∈ facet, f < s.params.facets) (hhlr : t.hlr = s.hlr) (hparams : t.params = s.params)
    (hant : t.ant = s.ant.countSweep facet) : t.trackerConsistent := by
  obtain ⟨hh, hp, hm, ha, hf⟩ := h
  unfold State.trackerConsistent
  rw [hhlr, hparams, hant]
  cases facet with
  | none => exact ⟨hh, hp, hm, ha, hf⟩
  | some f => exact ⟨hh, hp, hm, ha, fun g hg => hfacet g hg⟩

theorem State.trackerConsistent.track {s : State} (h : s.trackerConsistent) (mirror azimuth : RawCount) :
    (s.track mirror azimuth).1.trackerConsistent := by
  have hreq : (State.pipelineRequests (trackerRequests s.ant) s).trackerConsistent :=
    h.of_eq (by simp) (by simp) (by simp)
  have hs := (hreq.handleSample .mirror mirror).handleSample .azimuth azimuth
  refine hs.countSweep (fun f hf => ?_) rfl rfl rfl
  obtain ⟨m, hm, rfl⟩ := Option.map_eq_some_iff.mp hf
  exact mirrorAngles_facet_lt hs.parameters hm

theorem State.trackerConsistent.judgePulse {s : State} (h : s.trackerConsistent) (t : Timestamp) (k : Handoff) :
    (s.judgePulse t k).trackerConsistent := by
  rcases s.judgePulse_hlr t k with e | e
  · exact h.of_eq e (by simp) (by simp)
  · exact h.of_hlr (e ▸ h.receiver.reject) (by simp) (by simp)

theorem State.trackerConsistent.considerPulse {s : State} (h : s.trackerConsistent) (t : Timestamp) (k : Handoff) :
    (s.considerPulse t k).trackerConsistent := by
  unfold State.considerPulse
  cases s.emq.run with
  | stopped => exact h
  | draining => exact h
  | running => exact h.judgePulse t k
  | waiting =>
    dsimp only
    split
    · exact State.trackerConsistent.judgePulse (h.of_eq (by simp) (by simp) (by simp)) t k
    · exact h

theorem State.trackerConsistent.handleFire {s : State} (h : s.trackerConsistent) (t : Timestamp)
    (mirror azimuth : RawCount) : (s.handleFire t mirror azimuth).trackerConsistent := by
  have hc := (h.track mirror azimuth).considerPulse t (s.track mirror azimuth).2
  unfold State.handleFire
  dsimp only
  split
  · exact hc.of_eq (by simp) (by simp) (by simp)
  · exact hc

/-! ### Records -/

theorem State.trackerConsistent.setTime {s : State} (h : s.trackerConsistent) (t : Timestamp) :
    (s.setTime t).trackerConsistent :=
  h.of_hlr (h.receiver.setTime (some t)) rfl rfl

/-- Section 1.5: what every handling of a record keeps, the comparison with stream time before it keeps too. -/
theorem State.trackerConsistent.timed {s : State} (h : s.trackerConsistent) (t : Timestamp) {handle : State → State}
    (hk : ∀ u : State, u.trackerConsistent → (handle u).trackerConsistent) : (s.timed t handle).trackerConsistent := by
  have ht := h.setTime t
  rcases s.timed_cases t handle with ⟨_, e⟩ | ⟨_, e⟩ | ⟨_, e⟩ | ⟨_, e⟩ <;> rw [e]
  · exact hk _ (ht.of_eq (by simp [State.advance]) (by simp) (by simp))
  · exact hk s h
  · exact hk s h
  · exact ht.of_eq (by simp [State.timeJump]) (by simp) (by simp)

theorem State.trackerConsistent.reject {s : State} (h : s.trackerConsistent) : s.rejectFrame.trackerConsistent :=
  h.of_hlr h.receiver.reject rfl rfl

/-- R187: a command other than TABLE_READ keeps the tracker: SET_PARAM and RESET alone touch it. -/
theorem State.trackerConsistent.replyTo {s : State} (h : s.trackerConsistent) (c : Command) :
    (replyTo c s).state.trackerConsistent := by
  have hreset : (cmdReset c.args s).state.trackerConsistent := by
    unfold cmdReset Reply.ofLength
    split
    · exact h.softReset
    · exact h
  refine replyTo_cases s c (fun r => r.state.trackerConsistent) ?_ ?_ ?_ ?_ (h.setParam c.args) ?_ ?_ ?_ ?_ ?_ ?_ ?_ ?_
    ?_ ?_ ?_ ?_ ?_ hreset h <;>
    exact h.of_eq (by simp) (by simp) (by simp)

theorem State.trackerConsistent.takeCommand {s : State} (h : s.trackerConsistent) (c : Command) :
    (s.takeCommand c).trackerConsistent := by
  rcases s.takeCommand_cases c with ⟨r, _, _, e⟩ | ⟨x, _, _, e⟩ | ⟨_, e⟩ <;> rw [e]
  · exact h.of_eq rfl rfl rfl
  · exact h.of_eq (by simp [State.refuse]) (by simp [State.refuse]) (by simp [State.refuse])
  · exact (h.replyTo c).of_eq (by simp) (by simp) (by simp)

theorem State.trackerConsistent.deliverCommand {s : State} (h : s.trackerConsistent) (c : Command) :
    (s.deliverCommand c).trackerConsistent := by
  rcases s.deliverCommand_cases c with ⟨_, _, e⟩ | ⟨_, _, e⟩ | ⟨_, _, e⟩ <;> rw [e]
  · exact h.takeCommand c
  · exact h.of_eq rfl rfl rfl
  · exact h.of_eq (by simp [State.refuse]) (by simp [State.refuse]) (by simp [State.refuse])

/-- Section 1.4: a delivered record of any kind. -/
theorem State.trackerConsistent.deliver {s : State} (h : s.trackerConsistent) (r : Record) :
    (s.deliver r).trackerConsistent := by
  cases r with
  | fire t m a => exact h.timed t fun _ hu => hu.handleFire t m a
  | echo t a w => exact h.timed t fun _ hu => hu.of_eq (by simp) (by simp) (by simp)
  | tick t => exact h.timed t fun _ hu => hu
  | index c raw => exact h.handleIndex c raw
  | tile n st cols rows cells =>
    simp only [State.deliver, State.deliverTile]
    split
    · exact h.of_eq (by simp) (by simp) (by simp)
    · exact h.reject
  | cmd c =>
    simp only [State.deliver, State.deliverCmd]
    split
    · exact h.deliverCommand c
    · exact h.reject

/-! ### Frames -/

theorem State.trackerConsistent.passed {s : State} (h : s.trackerConsistent) : s.passed.trackerConsistent :=
  h.of_hlr h.receiver.passed rfl rfl

theorem State.trackerConsistent.huntPass {s : State} (h : s.trackerConsistent) (hl : s.hlr.link = .hunt) :
    (s.onHlr Hlr.huntPass).trackerConsistent :=
  h.of_hlr (h.receiver.huntPass hl) rfl rfl

/-- R2, R4: a failing frame: HUNT begins again, SYNC counts it or is lost. -/
theorem State.frameFails_hlr_consistent {s : State} (hh : s.hlr.consistent) : s.frameFails.hlr.consistent := by
  obtain ⟨hgood, hbad, hsync, hhunt, hrej⟩ := hh
  unfold State.frameFails
  cases hl : s.hlr.link with
  | hunt => exact ⟨by simp, hbad, fun _ => rfl, hhunt, hrej⟩
  | sync =>
    simp only [State.syncFail]
    split
    · rename_i hrun
      simp only [State.raise_hlr] at hrun
      exact ⟨hgood, by simp only [State.onHlr_hlr, State.raise_hlr]; omega, hsync, by simp [hl], hrej⟩
    · simpa [Hlr.consistent] using hrej

theorem State.trackerConsistent.frameFails {s : State} (h : s.trackerConsistent) : s.frameFails.trackerConsistent :=
  h.of_hlr (State.frameFails_hlr_consistent h.receiver) (by simp) (by simp)

theorem State.trackerConsistent.classified {s : State} (h : s.trackerConsistent) (kind : Byte) (payload : List Byte) :
    (s.classified kind payload).trackerConsistent := by
  unfold State.classified
  split
  · exact h.deliver _
  · exact h.reject

theorem State.trackerConsistent.receiveBytes {s : State} (h : s.trackerConsistent) (bytes : List Byte) :
    (s.receiveBytes bytes).trackerConsistent := by
  rcases s.receiveBytes_cases bytes with ⟨_, e⟩ | ⟨_, _, e⟩ | ⟨_, hl, _, e⟩ | ⟨_, kind, payload, _, e⟩ <;> rw [e]
  · exact h
  · exact h.frameFails
  · exact h.huntPass hl
  · exact h.passed.classified kind payload

theorem State.trackerConsistent.receiveRecord {s : State} (h : s.trackerConsistent) (r : Record) :
    (s.receiveRecord r).trackerConsistent := by
  rcases s.receiveRecord_cases r with ⟨_, e⟩ | ⟨_, hl, e⟩ | ⟨_, e⟩ <;> rw [e]
  · exact h
  · exact h.huntPass hl
  · exact h.passed.deliver r

/-! ### Rows and steps -/

theorem State.trackerConsistent.withLines {s : State} (h : s.trackerConsistent) (l : Lines) :
    (s.withLines l).trackerConsistent := h.of_eq (by simp) (by simp) (by simp)

theorem State.trackerConsistent.atLines {s : State} (h : s.trackerConsistent) (o : Option Lines) :
    (s.atLines o).trackerConsistent := by
  cases o with
  | none => exact h
  | some l => exact h.withLines l

/-- R186: the commands taken from the queue. -/
theorem drainCommands_trackerConsistent (n : Nat) {s : State} (h : s.trackerConsistent) :
    (drainCommands n s).trackerConsistent := by
  induction n generalizing s with
  | zero => exact h
  | succ n ih =>
    unfold drainCommands
    split
    · exact ih (State.trackerConsistent.takeCommand (h.of_eq (by rfl) (by rfl) (by rfl)) _)
    · exact h

/-- R121, R186: the end of a row. -/
theorem State.trackerConsistent.settleRead {s : State} (h : s.trackerConsistent) : s.settleRead.trackerConsistent := by
  have ha : s.answerRead.trackerConsistent := by
    rcases s.answerRead_cases with ⟨r, _, _, e⟩ | ⟨_, e⟩ <;> rw [e]
    · exact h.of_eq (by simp) (by simp) (by simp)
    · exact h
  unfold State.settleRead
  rcases s.answerRead.takeQueued_cases with ⟨_, _, n, e⟩ | ⟨_, e⟩ <;> rw [e]
  · exact drainCommands_trackerConsistent n (ha.of_eq rfl rfl rfl)
  · exact ha

/-- A row that ends by settling the read of a consistent state. -/
theorem State.trackerConsistent.settled {s t : State} (h : s.trackerConsistent) (he : s.settled = .next t) :
    t.trackerConsistent := by
  cases he
  exact h.settleRead

/-- R48, R49: the close of PULSE_CLOSE touches neither the receiver nor the parameters nor the tracker. -/
theorem State.pulseClose_tracker (s : State) :
    s.pulseClose.hlr = s.hlr ∧ s.pulseClose.params = s.params ∧ s.pulseClose.ant = s.ant := by
  unfold State.pulseClose
  split
  · simp
  · dsimp only
    split <;> simp

theorem exec_trackerConsistent {i : Instr} {s t : State} (h : s.trackerConsistent) (he : exec i s = .next t) :
    t.trackerConsistent := by
  cases hr : recordOf i with
  | some ro =>
    obtain ⟨r, o⟩ := ro
    rw [exec_of_recordOf s hr] at he
    exact State.trackerConsistent.settled ((h.atLines o).receiveRecord r) he
  | none =>
    cases i
    case powerOnReset l => cases he; exact State.powerOn_trackerConsistent _ _ _ _ _
    case lineReset => cases he; exact s.lineReset_trackerConsistent
    case resetNRelease l =>
      cases he
      exact State.trackerConsistent.withLines (h.of_eq (by rfl) (by rfl) (by rfl)) l
    case frameCheckFail bytes => exact (h.receiveBytes bytes).settled he
    case huntFrame bytes => exact (h.receiveBytes bytes).settled he
    case frameRefused bytes => exact (h.receiveBytes bytes).settled he
    case tableReadFetch l =>
      refine State.trackerConsistent.settled ((h.withLines l).of_eq ?_ ?_ ?_) he <;> simp
    case pulseClose =>
      obtain ⟨h1, h2, h3⟩ := s.pulseClose_tracker
      exact (h.of_eq h1 h2 h3).settled he
    case batchFlush => exact (h.of_eq (by simp) (by simp) (by simp)).settled he
    case l2WindowEnd => exact (State.trackerConsistent_ite (h.of_eq (by rfl) (by rfl) (by rfl)) h).settled he
    case captureFull => exact (State.trackerConsistent_ite (h.of_eq (by rfl) (by rfl) (by rfl)) h).settled he
    case tileTimeout laser =>
      exact (State.trackerConsistent_ite (h.of_eq (by simp) (by simp) (by simp)) h).settled he
    case tileRetire laser =>
      exact (State.trackerConsistent_ite (h.of_eq (by simp) (by simp) (by simp)) h).settled he
    case generationSwitch => exact (h.of_eq (by simp) (by simp) (by simp)).settled he
    case streamStarted => exact (h.of_eq (by simp) (by simp) (by simp)).settled he
    case drainEnd => exact (h.of_eq (by simp) (by simp) (by simp)).settled he
    case recReadyRise => exact (h.of_eq (by rfl) (by rfl) (by rfl)).settled he
    case frameDepartureEnd l =>
      have hl := h.withLines l
      exact (State.trackerConsistent_ite (hl.of_eq (by simp) (by simp) (by simp)) hl).settled he
    case rspWaitAdmit => exact (h.of_eq (by simp) (by simp) (by simp)).settled he
    case camTrigPulseEnd => exact (h.of_eq (by rfl) (by rfl) (by rfl)).settled he
    all_goals cases hr

/-- Settles O59: every row and the idle step keep receiver, channels, last facet and parameters in range. -/
theorem trackerStaysConsistent : Obligations.TrackerStaysConsistent := by
  intro s t h hstep
  unfold step at hstep
  split at hstep
  · cases hstep
    exact drainCommands_trackerConsistent 1 h
  · exact exec_trackerConsistent (h.of_eq (by rfl) (by rfl) (by rfl)) hstep

end Sys2Proof.Machine
end

section
/-! PROOFS. Numbers on the links, the frame check and the classification, both ways (O7). -/

namespace Sys2Proof

/-! ### Numbers on the links (R201) -/

theorem foldl_bytes (bs : List Byte) (acc : Nat) :
    bs.foldl (fun acc b => acc * 256 + b.toNat) acc = acc * 256 ^ bs.length + beNat bs := by
  induction bs generalizing acc with
  | nil => simp [beNat]
  | cons b bs ih =>
    simp only [beNat, List.foldl_cons, List.length_cons] at ih ⊢
    rw [ih, ih (0 * 256 + b.toNat)]
    ring

@[simp] theorem beNat_nil : beNat [] = 0 := rfl

theorem beNat_cons (b : Byte) (bs : List Byte) : beNat (b :: bs) = b.toNat * 256 ^ bs.length + beNat bs := by
  have h := foldl_bytes bs (0 * 256 + b.toNat)
  rw [Nat.zero_mul, Nat.zero_add] at h
  rw [← h]
  simp [beNat]

theorem beNat_lt (bs : List Byte) : beNat bs < 256 ^ bs.length := by
  induction bs with
  | nil => simp
  | cons b bs ih =>
    rw [beNat_cons, List.length_cons, pow_succ]
    have hb := b.isLt
    nlinarith

@[simp] theorem beBytes_length (n v : Nat) : (beBytes n v).length = n := by
  induction n with
  | zero => rfl
  | succ n ih => simp [beBytes, ih]

/-- The bytes of a number depend on its low part alone. -/
theorem beBytes_add_mul (n v k : Nat) : beBytes n (v + k * 256 ^ n) = beBytes n v := by
  induction n generalizing k with
  | zero => rfl
  | succ n ih =>
    have hp : 0 < 256 ^ n := by positivity
    have hk : v + k * 256 ^ (n + 1) = v + (k * 256) * 256 ^ n := by ring
    rw [beBytes, beBytes, hk, ih, Nat.add_mul_div_right _ _ hp]
    congr 1
    apply BitVec.eq_of_toNat_eq
    simp only [BitVec.toNat_ofNat]
    omega

theorem beBytes_mod (n v : Nat) : beBytes n (v % 256 ^ n) = beBytes n v := by
  conv_rhs => rw [← Nat.mod_add_div v (256 ^ n), Nat.mul_comm, beBytes_add_mul]

theorem beBytes_beNat {n : Nat} {bs : List Byte} (h : bs.length = n) : beBytes n (beNat bs) = bs := by
  induction bs generalizing n with
  | nil => subst h; rfl
  | cons b bs ih =>
    subst h
    have hlt := beNat_lt bs
    have hp : 0 < 256 ^ bs.length := by positivity
    rw [beNat_cons, List.length_cons, beBytes, Nat.add_comm, beBytes_add_mul, ih rfl,
      Nat.add_mul_div_right _ _ hp, Nat.div_eq_of_lt hlt, Nat.zero_add]
    simp

theorem beNat_beBytes (n v : Nat) : beNat (beBytes n v) = v % 256 ^ n := by
  induction n with
  | zero => simp [beBytes, Nat.mod_one]
  | succ n ih =>
    have hb : (BitVec.ofNat 8 (v / 256 ^ n)).toNat = v / 256 ^ n % 256 := by simp
    rw [beBytes, beNat_cons, beBytes_length, ih, hb, pow_succ, Nat.mod_mul]
    ring

/-- A word of whole bytes is read as it was written. -/
theorem ofNat_beNat_beBytes {w : Nat} (n : Nat) (hw : 256 ^ n = 2 ^ w) (x : BitVec w) :
    BitVec.ofNat w (beNat (beBytes n x.toNat)) = x := by
  rw [beNat_beBytes, hw, Nat.mod_eq_of_lt x.isLt, BitVec.ofNat_toNat, BitVec.setWidth_eq]

/-- Bytes that are read as a word are the word's bytes. -/
theorem beBytes_ofNat_beNat {w n : Nat} (hw : 256 ^ n = 2 ^ w) {bs : List Byte} (h : bs.length = n) :
    beBytes n (BitVec.ofNat w (beNat bs)).toNat = bs := by
  rw [BitVec.toNat_ofNat, ← hw, ← h, Nat.mod_eq_of_lt (beNat_lt bs), beBytes_beNat rfl]

/-! ### The frame check (R1) -/

/-- R1: the CRC of a byte more: eight divisions by 1021h. -/
theorem crc16_append_singleton (bs : List Byte) (b : Byte) :
    crc16 (bs ++ [b]) = crcStep^[8] (crc16 bs ^^^ (b.setWidth 16 <<< 8)) := by
  simp only [crc16, List.foldl_append, List.foldl_cons, List.foldl_nil]
  rfl

theorem crcStep_eq (c : BitVec 16) : crcStep c = if c.getLsbD 15 then (c <<< 1) ^^^ 0x1021#16 else c <<< 1 := by
  simp [crcStep, BitVec.msb_eq_getLsbD_last]

/-- R1: a frame passes the check exactly when its bytes are a kind, a length, a payload of that length, the check of these,
and idle fill. -/
theorem checkFrame_eq_some_iff (bytes : List Byte) (kind : Byte) (payload : List Byte) :
    checkFrame bytes = some (kind, payload) ↔
      payload.length < 2 ^ 16 ∧
        ∃ fill : List Byte,
          bytes = (kind :: (beBytes 2 payload.length ++ payload)) ++
            beBytes 2 (crc16 (kind :: (beBytes 2 payload.length ++ payload))).toNat ++ fill := by
  constructor
  · intro h
    unfold checkFrame at h
    split at h
    · rename_i k hi lo rest
      dsimp only at h
      split at h
      · rename_i hc
        obtain ⟨hlen, hcrc⟩ := hc
        cases h
        have hle : beNat [hi, lo] ≤ rest.length := by
          rw [List.length_take, List.length_drop] at hlen
          omega
        have htake : (rest.take (beNat [hi, lo])).length = beNat [hi, lo] := by rw [List.length_take]; omega
        have hlength : beBytes 2 (beNat [hi, lo]) = [hi, lo] := beBytes_beNat rfl
        have hcheck := beBytes_ofNat_beNat (w := 16) (n := 2) rfl hlen
        rw [htake, hlength]
        refine ⟨(beNat_lt [hi, lo]).trans_eq (by norm_num), (rest.drop (beNat [hi, lo])).drop 2, ?_⟩
        simp only [List.cons_append, List.nil_append, hcrc, hcheck, List.append_assoc, List.take_append_drop]
      · cases h
    · cases h
  · rintro ⟨hlt, fill, rfl⟩
    have hlen : beNat (beBytes 2 payload.length) = payload.length := by
      rw [beNat_beBytes]; exact Nat.mod_eq_of_lt hlt
    obtain ⟨hi, lo, hbytes⟩ : ∃ hi lo, beBytes 2 payload.length = [hi, lo] := ⟨_, _, rfl⟩
    rw [hbytes] at hlen ⊢
    simp only [checkFrame, List.cons_append, List.nil_append, hlen]
    have hc := ofNat_beNat_beBytes (w := 16) 2 rfl (crc16 (kind :: hi :: lo :: payload))
    simp [List.append_assoc, hc]

end Sys2Proof
end

section
/-! PROOFS. The classification of a payload, kind by kind, and the frames of well-formed records (O7). -/

namespace Sys2Proof

/-! ### Fields of a payload (section 11.1) -/

theorem tileStatusOf_eq_none_iff (b : Byte) : tileStatusOf b = none ↔ 2 < b.toNat := by
  unfold tileStatusOf
  split <;> simp_all
  omega

@[simp] theorem tileStatusOf_byte (st : TileStatus) : tileStatusOf st.byte = some st := by
  cases st <;> rfl

theorem byte_of_tileStatusOf {b : Byte} {st : TileStatus} (h : tileStatusOf b = some st) : st.byte = b := by
  unfold tileStatusOf at h
  split at h <;> cases h <;> exact BitVec.eq_of_toNat_eq (by rename_i hb; exact hb.symm)

theorem tileStatus_ok_iff {b : Byte} {st : TileStatus} (h : st.byte = b) : st = .ok ↔ b.toNat = 0 := by
  subst h
  cases st <;> simp [TileStatus.byte]

theorem channelOf_eq_none_iff (b : Byte) : channelOf b = none ↔ b.toNat ≠ 1 ∧ b.toNat ≠ 2 := by
  unfold channelOf
  split <;> simp_all

@[simp] theorem channelOf_byte (c : ChannelId) : channelOf c.byte = some c := by
  cases c <;> rfl

theorem byte_of_channelOf {b : Byte} {c : ChannelId} (h : channelOf b = some c) : c.byte = b := by
  unfold channelOf at h
  split at h <;> cases h <;> exact BitVec.eq_of_toNat_eq (by rename_i hb; exact hb.symm)

/-- The bytes of colour triples. -/
def cellBytes (cells : List Rgb) : List Byte := cells.flatMap fun c => [c.r, c.g, c.b]

@[simp] theorem cellBytes_length (cells : List Rgb) : (cellBytes cells).length = 3 * cells.length := by
  simp [cellBytes, List.length_flatMap, Nat.mul_comm]

@[simp] theorem cellsOf_cellBytes (cells : List Rgb) : cellsOf (cellBytes cells) = some cells := by
  induction cells with
  | nil => rfl
  | cons c cells ih =>
    have h : cellBytes (c :: cells) = c.r :: c.g :: c.b :: cellBytes cells := rfl
    rw [h, cellsOf, ih]
    rfl

/-- Whole triples are read as the cells they spell; any other bytes are no cells. -/
theorem cellsOf_spec (bs : List Byte) :
    (bs.length % 3 ≠ 0 ∧ cellsOf bs = none) ∨ ∃ cells, cellBytes cells = bs ∧ cellsOf bs = some cells := by
  induction bs using cellsOf.induct with
  | case1 => exact .inr ⟨[], rfl, rfl⟩
  | case2 r g b rest ih =>
    rcases ih with ⟨hlen, hnone⟩ | ⟨cells, hbytes, hsome⟩
    · left; simp [cellsOf, hnone]; omega
    · right; exact ⟨⟨r, g, b⟩ :: cells, by rw [← hbytes]; rfl, by simp [cellsOf, hsome]⟩
  | case3 bs h0 h3 =>
    left
    match bs with
    | [] => exact absurd rfl h0
    | [_] => simp [cellsOf]
    | [_, _] => simp [cellsOf]
    | r :: g :: b :: rest => exact absurd rfl (h3 r g b rest)

theorem tileFieldsOk_iff (st : TileStatus) (cols rows : Byte) (cells : List Rgb) :
    tileFieldsOk st cols rows cells = true ↔
      1 ≤ cols.toNat ∧ cols.toNat ≤ 32 ∧ 1 ≤ rows.toNat ∧ rows.toNat ≤ 64 ∧
        cells.length = if st = .ok then cols.toNat * rows.toNat else 0 := by
  simp [tileFieldsOk]

/-! ### Classification (R5, R6): the record that bytes spell -/

/-- The record of a classification: its frame carries the classified bytes, but for the two spare bits of an ECHO (R203). -/
def SpelledBy (r : Record) (kind : Byte) (payload : List Byte) : Prop :=
  r.wellFormed = true ∧ r.kind = kind ∧ (kind.toNat ≠ 2 → r.payload = payload) ∧
    (kind.toNat = 2 → r.payload = payload.take 7 ++ [payload.getD 7 0 &&& 0xFC#8])

/-- R6: when a payload is no tile. -/
def BadTile (payload : List Byte) : Prop :=
  payload.length < 5 ∨ 2 < (payload.getD 2 0).toNat ∨ (payload.getD 3 0).toNat < 1 ∨ 32 < (payload.getD 3 0).toNat ∨
    (payload.getD 4 0).toNat < 1 ∨ 64 < (payload.getD 4 0).toNat ∨
    payload.length ≠
      5 + if (payload.getD 2 0).toNat = 0 then 3 * ((payload.getD 3 0).toNat * (payload.getD 4 0).toNat) else 0

/-- The kind byte of a number. -/
theorem kind_eq {kind : Byte} {n : Nat} (h : kind.toNat = n) : kind = BitVec.ofNat 8 n := by
  apply BitVec.eq_of_toNat_eq
  have := kind.isLt
  simp only [BitVec.toNat_ofNat]
  omega

/-- What the classification of a kind says: it refuses exactly under `bad`, and otherwise answers the record spelled. -/
def ClassifiesAs (v : Variant) (kind : Byte) (payload : List Byte) (bad : Prop) : Prop :=
  (bad ∧ classify v kind payload = none) ∨
    (¬bad ∧ ∃ r, classify v kind payload = some r ∧ SpelledBy r kind payload)

theorem classify_fire (v : Variant) {kind : Byte} (payload : List Byte) (hk : kind.toNat = 1) :
    ClassifiesAs v kind payload (payload.length ≠ 11) := by
  by_cases hn : payload.length = 11
  · have ht := beBytes_ofNat_beNat (w := 40) (n := 5) rfl (bs := payload.take 5) (by simp [hn])
    have hm := beBytes_ofNat_beNat (w := 24) (n := 3) rfl (bs := (payload.drop 5).take 3) (by simp [hn])
    have ha := beBytes_ofNat_beNat (w := 24) (n := 3) rfl (bs := payload.drop 8) (by simp [hn])
    have hc : classify v kind payload = some (.fire (BitVec.ofNat 40 (beNat (payload.take 5)))
        (BitVec.ofNat 24 (beNat ((payload.drop 5).take 3))) (BitVec.ofNat 24 (beNat (payload.drop 8)))) := by
      simp [classify, hk, hn]
    refine .inr ⟨by simpa using hn, _, hc, rfl, (kind_eq hk).symm, fun _ => ?_, by simp [hk]⟩
    simp only [Record.payload, ht, hm, ha]
    have hd : payload.drop 8 = (payload.drop 5).drop 3 := by simp
    rw [List.append_assoc, hd, List.take_append_drop, List.take_append_drop]
  · exact .inl ⟨hn, by simp [classify, hk, hn]⟩

/-- R203: the amplitude and the width that the last three bytes of an ECHO spell, written again without the spare bits. -/
theorem beBytes_echo (b2 b1 b0 : Byte) :
    beBytes 3 ((BitVec.ofNat 12 (beNat [b2, b1, b0] / 4096)).toNat * 4096 +
      (BitVec.ofNat 10 (beNat [b2, b1, b0] / 4)).toNat * 4) = [b2, b1, b0 &&& 0xFC#8] := by
  have hmask : (b0 &&& 0xFC#8).toNat = b0.toNat / 4 * 4 := by revert b0; decide
  have hx : (BitVec.ofNat 12 (beNat [b2, b1, b0] / 4096)).toNat * 4096 +
      (BitVec.ofNat 10 (beNat [b2, b1, b0] / 4)).toNat * 4 = beNat [b2, b1, b0 &&& 0xFC#8] := by
    have h2 := b2.isLt
    have h1 := b1.isLt
    have h0 := b0.isLt
    simp only [beNat_cons, List.length_cons, List.length_nil, beNat_nil, BitVec.toNat_ofNat, hmask]
    omega
  rw [hx]
  exact beBytes_beNat rfl

theorem classify_echo (v : Variant) {kind : Byte} (payload : List Byte) (hk : kind.toNat = 2) :
    ClassifiesAs v kind payload (payload.length ≠ 8) := by
  by_cases hn : payload.length = 8
  · have ht := beBytes_ofNat_beNat (w := 40) (n := 5) rfl (bs := payload.take 5) (by simp [hn])
    have hc : classify v kind payload = some (.echo (BitVec.ofNat 40 (beNat (payload.take 5)))
        (BitVec.ofNat 12 (beNat (payload.drop 5) / 4096)) (BitVec.ofNat 10 (beNat (payload.drop 5) / 4))) := by
      simp [classify, hk, hn]
    refine .inr ⟨by simpa using hn, _, hc, rfl, (kind_eq hk).symm, by simp [hk], fun _ => ?_⟩
    clear hc
    match payload, hn with
    | [p0, p1, p2, p3, p4, b2, b1, b0], _ =>
      simp only [Record.payload, ht]
      exact congrArg ([p0, p1, p2, p3, p4] ++ ·) (beBytes_echo b2 b1 b0)
  · exact .inl ⟨hn, by simp [classify, hk, hn]⟩

theorem classify_tick (v : Variant) {kind : Byte} (payload : List Byte) (hk : kind.toNat = 3) :
    ClassifiesAs v kind payload (payload.length ≠ 5) := by
  by_cases hn : payload.length = 5
  · have ht := beBytes_ofNat_beNat (w := 40) (n := 5) rfl hn
    have hc : classify v kind payload = some (.tick (BitVec.ofNat 40 (beNat payload))) := by simp [classify, hk, hn]
    exact .inr ⟨by simpa using hn, _, hc, rfl, (kind_eq hk).symm, fun _ => ht, by simp [hk]⟩
  · exact .inl ⟨hn, by simp [classify, hk, hn]⟩

theorem classify_index (v : Variant) {kind : Byte} (payload : List Byte) (hk : kind.toNat = 4) :
    ClassifiesAs v kind payload
      (payload.length ≠ 4 ∨ payload.length = 4 ∧ (payload.getD 0 0).toNat ≠ 1 ∧ (payload.getD 0 0).toNat ≠ 2) := by
  by_cases hn : payload.length = 4
  · match payload, hn with
    | [ch, b2, b1, b0], _ =>
      have hc : classify v kind [ch, b2, b1, b0] =
          (channelOf ch).map fun c => .index c (BitVec.ofNat 24 (beNat [b2, b1, b0])) := by simp [classify, hk]
      cases hch : channelOf ch with
      | none => exact .inl ⟨.inr ⟨rfl, (channelOf_eq_none_iff ch).mp hch⟩, by simp [hc, hch]⟩
      | some c =>
        have hbad : ¬(ch.toNat ≠ 1 ∧ ch.toNat ≠ 2) := by rw [← channelOf_eq_none_iff, hch]; simp
        rw [hch, Option.map_some] at hc
        refine .inr ⟨by simpa using hbad, _, hc, rfl, (kind_eq hk).symm, fun _ => ?_, by simp [hk]⟩
        have hraw := beBytes_ofNat_beNat (w := 24) (n := 3) rfl (bs := [b2, b1, b0]) rfl
        rw [Record.payload, byte_of_channelOf hch, hraw]
  · refine .inl ⟨.inl hn, ?_⟩
    simp only [classify, hk]
    split
    · simp at hn
    · rfl

theorem classify_cmd (v : Variant) {kind : Byte} (payload : List Byte) (hk : kind.toNat = 6) :
    ClassifiesAs v kind payload (payload.length < 2 ∨ 1026 < payload.length) := by
  match payload with
  | [] => exact .inl ⟨by simp, by simp [classify, hk]⟩
  | [_] => exact .inl ⟨by simp, by simp [classify, hk]⟩
  | tag :: code :: args =>
    by_cases hn : args.length ≤ maxArgs
    · refine .inr ⟨?_, .cmd ⟨tag, code, args⟩, by simp [classify, hk, hn], ?_, (kind_eq hk).symm, fun _ => rfl,
        by simp [hk]⟩
      · simp only [maxArgs] at hn
        simp only [List.length_cons]
        omega
      · simpa [Record.wellFormed, argsOk] using hn
    · refine .inl ⟨?_, by simp [classify, hk, hn]⟩
      simp only [maxArgs] at hn
      simp only [List.length_cons]
      omega

/-- R6: what the tile tests say of a payload of at least 5 bytes. -/
theorem not_badTile_iff {n1 n0 st cols rows : Byte} {rest : List Byte} :
    ¬BadTile (n1 :: n0 :: st :: cols :: rows :: rest) ↔
      st.toNat ≤ 2 ∧ 1 ≤ cols.toNat ∧ cols.toNat ≤ 32 ∧ 1 ≤ rows.toNat ∧ rows.toNat ≤ 64 ∧
        rest.length = if st.toNat = 0 then 3 * (cols.toNat * rows.toNat) else 0 := by
  simp only [BadTile, List.length_cons, List.getD_cons_succ, List.getD_cons_zero]
  omega

theorem classifyTile_spec (payload : List Byte) :
    (BadTile payload ∧ classifyTile payload = none) ∨
      (¬BadTile payload ∧ ∃ r, classifyTile payload = some r ∧ r.wellFormed = true ∧ r.kind = 0x05#8 ∧
        r.payload = payload) := by
  match payload with
  | [] | [_] | [_, _] | [_, _, _] | [_, _, _, _] => exact .inl ⟨.inl (by simp), rfl⟩
  | n1 :: n0 :: st :: cols :: rows :: rest =>
    cases hst : tileStatusOf st with
    | none =>
      refine .inl ⟨.inr (.inl ?_), by simp [classifyTile, hst]⟩
      simpa using (tileStatusOf_eq_none_iff st).mp hst
    | some status =>
      have hle : st.toNat ≤ 2 := by
        have h := tileStatusOf_eq_none_iff st
        rw [hst] at h
        simpa using h
      have hbyte := byte_of_tileStatusOf hst
      rcases cellsOf_spec rest with ⟨hmod, hcells⟩ | ⟨cells, hbytes, hcells⟩
      · refine .inl ⟨?_, by simp [classifyTile, hst, hcells]⟩
        by_contra hbad
        obtain ⟨_, _, _, _, _, hrest⟩ := not_badTile_iff.mp hbad
        rw [hrest] at hmod
        split at hmod <;> simp at hmod
      · have hlen : rest.length = 3 * cells.length := by rw [← hbytes, cellBytes_length]
        have hok : tileFieldsOk status cols rows cells = true ↔
            ¬BadTile (n1 :: n0 :: st :: cols :: rows :: rest) := by
          simp only [tileFieldsOk_iff, not_badTile_iff, hlen, tileStatus_ok_iff hbyte]
          split <;> omega
        by_cases hf : tileFieldsOk status cols rows cells = true
        · have hc : classifyTile (n1 :: n0 :: st :: cols :: rows :: rest) =
              some (.tile (BitVec.ofNat 16 (beNat [n1, n0])) status cols rows cells) := by
            simp [classifyTile, hst, hcells, hf]
          refine .inr ⟨hok.mp hf, _, hc, hf, rfl, ?_⟩
          have hn := beBytes_ofNat_beNat (w := 16) (n := 2) rfl (bs := [n1, n0]) rfl
          rw [Record.payload, hn, hbyte]
          exact congrArg ([n1, n0, st, cols, rows] ++ ·) hbytes
        · refine .inl ⟨not_not.mp fun h => hf (hok.mpr h), ?_⟩
          simp [classifyTile, hst, hcells, hf]

theorem classify_tile (v : Variant) {kind : Byte} (payload : List Byte) (hk : kind.toNat = 5) :
    ClassifiesAs v kind payload (v = .p4m ∨ BadTile payload) := by
  cases v with
  | p4m => exact .inl ⟨.inl rfl, by simp [classify, hk]⟩
  | p4c =>
    have hc : classify .p4c kind payload = classifyTile payload := by simp [classify, hk]
    rcases classifyTile_spec payload with ⟨hbad, h⟩ | ⟨hok, r, h, hwf, hkind, hp⟩
    · exact .inl ⟨.inr hbad, hc.trans h⟩
    · exact .inr ⟨by simpa using hok, r, hc.trans h, hwf, hkind.trans (kind_eq hk).symm, fun _ => hp, by simp [hk]⟩

theorem classify_noKind (v : Variant) {kind : Byte} (payload : List Byte) (hk : kind.toNat < 1 ∨ 6 < kind.toNat) :
    classify v kind payload = none := by
  unfold classify
  split
  case h_7 => rfl
  all_goals omega

end Sys2Proof
end

section
/-! PROOFS. Every frame of a well-formed record is received as that record, and the statement of O7. -/

namespace Sys2Proof

/-- R5, R6: the classification of every kind and payload. -/
theorem classify_spec (v : Variant) (kind : Byte) (payload : List Byte) :
    ClassifiesAs v kind payload
      ((kind.toNat < 1 ∨ 6 < kind.toNat) ∨
        (kind.toNat = 1 ∧ payload.length ≠ 11 ∨ kind.toNat = 2 ∧ payload.length ≠ 8 ∨
          kind.toNat = 3 ∧ payload.length ≠ 5 ∨ kind.toNat = 4 ∧ payload.length ≠ 4) ∨
        (kind.toNat = 4 ∧ payload.length = 4 ∧ (payload.getD 0 0).toNat ≠ 1 ∧ (payload.getD 0 0).toNat ≠ 2) ∨
        (kind.toNat = 6 ∧ (payload.length < 2 ∨ 1026 < payload.length)) ∨
        kind.toNat = 5 ∧ (v = .p4m ∨ BadTile payload)) := by
  by_cases h0 : kind.toNat < 1 ∨ 6 < kind.toNat
  · exact .inl ⟨.inl h0, classify_noKind v payload h0⟩
  · have hk : kind.toNat = 1 ∨ kind.toNat = 2 ∨ kind.toNat = 3 ∨ kind.toNat = 4 ∨ kind.toNat = 5 ∨ kind.toNat = 6 := by
      omega
    rcases hk with hk | hk | hk | hk | hk | hk
    · simpa [hk] using classify_fire v payload hk
    · simpa [hk] using classify_echo v payload hk
    · simpa [hk] using classify_tick v payload hk
    · simpa [hk] using classify_index v payload hk
    · simpa [hk] using classify_tile v payload hk
    · simpa [hk] using classify_cmd v payload hk

theorem ClassifiesAs.eq_none_iff {v : Variant} {kind : Byte} {payload : List Byte} {bad : Prop}
    (h : ClassifiesAs v kind payload bad) : classify v kind payload = none ↔ bad := by
  rcases h with ⟨hb, hc⟩ | ⟨hb, r, hc, _⟩ <;> simp [hb, hc]

theorem ClassifiesAs.spelledBy {v : Variant} {kind : Byte} {payload : List Byte} {bad : Prop}
    (h : ClassifiesAs v kind payload bad) {r : Record} (hr : classify v kind payload = some r) :
    SpelledBy r kind payload := by
  rcases h with ⟨_, hc⟩ | ⟨_, q, hc, hq⟩ <;> rw [hc] at hr
  · cases hr
  · cases hr; exact hq

/-! ### The encoder (section 11.1) -/

/-- R5, R6: a well-formed record's payload fits a frame. -/
theorem Record.payload_length_lt {r : Record} (h : r.wellFormed = true) : r.payload.length < 2 ^ 16 := by
  cases r with
  | fire t m a => simp [Record.payload]
  | echo t a w => simp [Record.payload]
  | tick t => simp [Record.payload]
  | index c raw => simp [Record.payload]
  | tile n st cols rows cells =>
    obtain ⟨_, hc, _, hr, hlen⟩ := (tileFieldsOk_iff st cols rows cells).mp h
    have hcells : cells.length ≤ 32 * 64 := by
      rw [hlen]
      split
      · exact Nat.mul_le_mul hc hr
      · omega
    have hbytes : (Record.tile n st cols rows cells).payload =
        beBytes 2 n.toNat ++ [st.byte, cols, rows] ++ cellBytes cells := rfl
    rw [hbytes]
    simp only [List.length_append, beBytes_length, List.length_cons, List.length_nil, cellBytes_length]
    omega
  | cmd c =>
    have hargs : c.args.length ≤ maxArgs := of_decide_eq_true h
    simp only [maxArgs] at hargs
    simp only [Record.payload, List.length_cons]
    omega

theorem classify_payload_echo (t : Timestamp) (a : BitVec 12) (w : BitVec 10) :
    classify .p4c 0x02#8 (Record.echo t a w).payload = some (.echo t a w) := by
  have ha := a.isLt
  have hw := w.isLt
  have hx : beNat (beBytes 3 (a.toNat * 4096 + w.toNat * 4)) = a.toNat * 4096 + w.toNat * 4 := by
    rw [beNat_beBytes]; omega
  have hamp : (a.toNat * 4096 + w.toNat * 4) / 4096 = a.toNat := by omega
  have hwidth : BitVec.ofNat 10 ((a.toNat * 4096 + w.toNat * 4) / 4) = w := by
    apply BitVec.eq_of_toNat_eq
    simp only [BitVec.toNat_ofNat]
    omega
  simp [classify, Record.payload, ofNat_beNat_beBytes, hx, hamp, hwidth]

/-- R5, R6: the classification of a well-formed record's payload is the record. -/
theorem classify_payload {r : Record} (h : r.wellFormed = true) : classify .p4c r.kind r.payload = some r := by
  cases r with
  | fire t m a =>
    have hd : (beBytes 5 t.toNat ++ (beBytes 3 m.toNat ++ beBytes 3 a.toNat)).drop 8 = beBytes 3 a.toNat := by
      rw [← List.append_assoc]
      exact List.drop_left' (by simp)
    simp [classify, Record.kind, Record.payload, ofNat_beNat_beBytes, hd]
  | echo t a w => exact classify_payload_echo t a w
  | tick t => simp [classify, Record.kind, Record.payload, ofNat_beNat_beBytes]
  | index c raw =>
    obtain ⟨b2, b1, b0, hb⟩ : ∃ b2 b1 b0, beBytes 3 raw.toNat = [b2, b1, b0] := ⟨_, _, _, rfl⟩
    have hraw := ofNat_beNat_beBytes (w := 24) 3 rfl raw
    rw [hb] at hraw
    simp [classify, Record.kind, Record.payload, hb, hraw]
  | tile n st cols rows cells =>
    obtain ⟨n1, n0, hb⟩ : ∃ n1 n0, beBytes 2 n.toNat = [n1, n0] := ⟨_, _, rfl⟩
    have hn := ofNat_beNat_beBytes (w := 16) 2 rfl n
    rw [hb] at hn
    have hp : (Record.tile n st cols rows cells).payload = n1 :: n0 :: st.byte :: cols :: rows :: cellBytes cells :=
      congrArg (· ++ [st.byte, cols, rows] ++ cellBytes cells) hb
    have hf : tileFieldsOk st cols rows cells = true := h
    rw [hp]
    simp [classify, Record.kind, classifyTile, hf, hn]
  | cmd c =>
    have hargs : c.args.length ≤ maxArgs := of_decide_eq_true h
    simp [classify, Record.kind, Record.payload, hargs]

theorem checkFrame_encodeFrame {r : Record} (h : r.wellFormed = true) (fill : List Byte) :
    checkFrame (encodeFrame r ++ fill) = some (r.kind, r.payload) :=
  (checkFrame_eq_some_iff _ _ _).mpr ⟨Record.payload_length_lt h, fill, rfl⟩

namespace Machine

/-- R1 to R6: on a P4C the bytes of a well-formed record's frame are received as the record is. -/
theorem State.receiveBytes_encodeFrame {s : State} (hv : s.variant = .p4c) {r : Record} (h : r.wellFormed = true)
    (fill : List Byte) : s.receiveBytes (encodeFrame r ++ fill) = s.receiveRecord r := by
  have hclass : ∀ u : State, u.variant = .p4c → u.classified r.kind r.payload = u.deliver r := fun u hu => by
    simp [State.classified, hu, classify_payload h]
  simp only [State.receiveBytes, State.receiveRecord, State.received, State.framePasses, checkFrame_encodeFrame h]
  split
  · rfl
  · cases s.hlr.link with
    | hunt => rfl
    | sync => exact hclass _ hv

/-- Log entry 9: a FRAME_REFUSED row that carries a record's frame acts as the record's own row. -/
theorem exec_frameRefused_encodeFrame {s : State} (hv : s.variant = .p4c) {r : Record} (h : r.wellFormed = true)
    (fill : List Byte) {i : Instr} (hi : recordOf i = some (r, none)) :
    exec (.frameRefused (encodeFrame r ++ fill)) s = exec i s := by
  rw [exec_of_recordOf s hi]
  exact congrArg State.settled (State.receiveBytes_encodeFrame hv h fill)

/-- Settles O7: the check and the classification each as an equivalence, and the encoder's frames through both. -/
theorem framesOfRecordsRoundTrip : Obligations.FramesOfRecordsRoundTrip := by
  refine ⟨⟨rfl, by decide, by decide +kernel, fun bs b => ?_⟩, checkFrame_eq_some_iff, fun v kind payload => ?_,
    fun _ _ _ => rfl, fun _ _ _ => rfl, fun _ => rfl, fun _ => ⟨rfl, rfl⟩, fun n st cols rows cells => ?_, fun _ => rfl,
    fun r fill h => ?_⟩
  · have hstep : crcStep = fun c => if c.getLsbD 15 then (c <<< 1) ^^^ 0x1021#16 else c <<< 1 := funext crcStep_eq
    rw [crc16_append_singleton, hstep]
  · have hspec := classify_spec v kind payload
    exact ⟨hspec.eq_none_iff, fun r hr => hspec.spelledBy hr⟩
  · cases st <;> rfl
  · exact ⟨checkFrame_encodeFrame h fill, classify_payload h, fun s hv =>
      ⟨State.receiveBytes_encodeFrame hv h fill, fun i hi => exec_frameRefused_encodeFrame hv h fill hi⟩⟩

end Machine
end Sys2Proof
end

section
/-! PROOFS. Resets (O2, O3, O60) and the frames of the Head Link under the link state (O5, O6). -/

namespace Sys2Proof.Machine

/-- Settles O2: every field of the state has the value that the power-on state's definition writes out. -/
theorem powerOnResetLeaves : Obligations.PowerOnResetLeaves := fun _ _ => rfl

/-- Settles O3: a line reset is the power-on state with its lines and a FROZEN protection kept; a release samples the lines. -/
theorem lineResetAndItsRelease : Obligations.LineResetAndItsRelease := by
  refine ⟨fun s => rfl, fun l s => ?_⟩
  simp only [exec, execResetNRelease, State.withLines_eq, State.onPins]

/-! ### The invariants at reset -/

/-- Settles O60: each invariant is read off the power-on values. -/
theorem resetMeetsTheInvariants : Obligations.ResetMeetsTheInvariants := by
  have hzero : Bank.zero.sized := fun t => by cases t <;> exact List.length_replicate
  refine ⟨rfl, rfl, ?_, ?_, ⟨hzero, hzero, hzero, ?_⟩, ?_, ?_, ?_, ?_, State.powerOn_trackerConsistent _ _ _ _ _⟩
  · exact ⟨by decide, .nil, by simp [State.reset, State.powerOn, Emq.initial], fun _ => rfl⟩
  · exact ⟨by simp [State.reset, State.powerOn, Emq.initial], fun _ => rfl⟩
  · exact fun t => ⟨fun _ => rfl, fun _ => rfl⟩
  · exact ⟨by decide, by decide, .nil, fun h => by cases h⟩
  · exact ⟨⟨by decide, fun _ => rfl⟩, ⟨rfl, rfl, rfl⟩, by decide, by decide, by decide, by decide, by decide, fun _ => rfl⟩
  · exact ⟨by decide, by decide, by decide, by simp [State.reset, State.powerOn, Rlf.initial], by decide, by decide,
      by simp [State.reset, State.powerOn, Rlf.initial], by decide⟩
  · exact ⟨by decide, by decide, rfl⟩

/-! ### Frames under the link state -/

/-- R2: what the first and the second passing frame in HUNT leave. -/
theorem Hlr.huntPass_first {h : Hlr} (hg : h.goodRun = 0) : h.huntPass = { h with goodRun := 1 } := by
  simp [Hlr.huntPass, hg]

theorem Hlr.huntPass_second {h : Hlr} (hg : h.goodRun ≠ 0) :
    h.huntPass = { h with link := .sync, goodRun := 0, badRun := 0 } := by
  have : ¬h.goodRun + 1 < 2 := by omega
  simp [Hlr.huntPass, this]

/-- R16: with RESET_N asserted no frame is received. -/
theorem State.receiveRecord_of_held {s : State} (h : s.pins.resetHeld = true) (r : Record) : s.receiveRecord r = s :=
  s.received_of_held _ h

theorem State.receiveBytes_of_held {s : State} (h : s.pins.resetHeld = true) (bytes : List Byte) :
    s.receiveBytes bytes = s :=
  s.received_of_held _ h

/-- R2: a passing frame in HUNT is counted and discarded. -/
theorem State.receiveRecord_of_hunt {s : State} (h : s.pins.resetHeld = false) (hl : s.hlr.link = .hunt) (r : Record) :
    s.receiveRecord r = s.onHlr Hlr.huntPass := by
  simp [State.receiveRecord, State.received, State.framePasses, h, hl]

theorem State.receiveBytes_of_hunt_pass {s : State} (h : s.pins.resetHeld = false) (hl : s.hlr.link = .hunt)
    {bytes : List Byte} (hc : (checkFrame bytes).isSome = true) : s.receiveBytes bytes = s.onHlr Hlr.huntPass := by
  obtain ⟨p, hp⟩ := Option.isSome_iff_exists.mp hc
  simp [State.receiveBytes, State.received, State.framePasses, h, hl, hp]

/-- R1 to R4: a failing frame goes to the count of failures. -/
theorem State.receiveBytes_of_fail {s : State} (h : s.pins.resetHeld = false) {bytes : List Byte}
    (hc : checkFrame bytes = none) : s.receiveBytes bytes = s.frameFails := by
  simp [State.receiveBytes, State.received, h, hc]

/-- R2: a failing frame in HUNT begins the good run again. -/
theorem State.frameFails_of_hunt {s : State} (hl : s.hlr.link = .hunt) :
    s.frameFails = s.onHlr fun h => { h with goodRun := 0 } := by
  simp only [State.frameFails, hl]

/-- R3, R5: a passing frame in SYNC is classified with the bad run at 0. -/
theorem State.receiveBytes_of_listens {s : State} (h : s.listens) {bytes : List Byte} {kind : Byte}
    {payload : List Byte} (hc : checkFrame bytes = some (kind, payload)) :
    s.receiveBytes bytes = s.passed.classified kind payload := by
  simp [State.receiveBytes, State.received, State.framePasses, h.1, h.2, hc, State.passed, State.onHlr]

/-- Log entry 2: the lines that a row samples leave RESET_N and the receiver. -/
@[simp] theorem State.atLines_receiver (s : State) (o : Option Lines) :
    (s.atLines o).pins.resetHeld = s.pins.resetHeld ∧ (s.atLines o).hlr = s.hlr := by
  cases o <;> simp [State.atLines, State.withLines_eq]

/-- R2, R3, R16: a record's row under RESET_N, in HUNT and in SYNC. -/
theorem exec_record_under_link {i : Instr} {r : Record} {o : Option Lines} (s : State) (hi : recordOf i = some (r, o)) :
    let u := s.atLines o
    (s.pins.resetHeld = true → exec i s = .next u.settleRead) ∧
    (s.pins.resetHeld = false → s.hlr.link = .hunt → exec i s = .next (u.onHlr Hlr.huntPass).settleRead) ∧
    (s.listens → exec i s = .next (u.passed.deliver r).settleRead) := by
  obtain ⟨hheld, hhlr⟩ := s.atLines_receiver o
  rw [exec_of_recordOf s hi]
  refine ⟨fun h => ?_, fun h hl => ?_, fun h => ?_⟩
  · rw [State.receiveRecord_of_held (hheld.trans h)]
  · rw [State.receiveRecord_of_hunt (hheld.trans h) (by rw [hhlr, hl])]
  · rw [State.receiveRecord_of_listens _ _ (s.listens_atLines o h)]

/-- Settles O5: the paths of a record's frame and of raw bytes, by RESET_N and link state. -/
theorem framesUnderTheLinkState : Obligations.FramesUnderTheLinkState := by
  refine ⟨fun i r o s hi => ?_, fun bytes s => ⟨fun h => ?_, fun h hl =>
    ⟨fun hc hg => ?_, fun hc hg => ?_, fun hc => ?_⟩⟩⟩
  · obtain ⟨hheld, hhunt, hsync⟩ := exec_record_under_link s hi
    have hhlr := (s.atLines_receiver o).2
    refine ⟨hheld, fun h hl hg => ?_, fun h hl hg => ?_, fun h => ?_⟩
    · rw [hhunt h hl, State.onHlr, hhlr, Hlr.huntPass_first hg]
    · rw [hhunt h hl, State.onHlr, hhlr, Hlr.huntPass_second hg]
    · rw [hsync h, State.passed, hhlr]
  · have hr := State.receiveBytes_of_held h bytes
    exact ⟨congrArg State.settled hr, congrArg State.settled hr, congrArg State.settled hr⟩
  · refine (congrArg State.settled (State.receiveBytes_of_hunt_pass h hl hc)).trans ?_
    rw [State.onHlr, Hlr.huntPass_first hg]
    rfl
  · refine (congrArg State.settled (State.receiveBytes_of_hunt_pass h hl hc)).trans ?_
    rw [State.onHlr, Hlr.huntPass_second hg]
    rfl
  · refine (congrArg State.settled (State.receiveBytes_of_fail h hc)).trans ?_
    rw [State.frameFails_of_hunt hl]
    rfl

/-- R4: a failing frame in SYNC below the fourth in a row. -/
theorem State.syncFail_of_lt {s : State} (h : s.hlr.badRun < 3) :
    s.syncFail =
      { s with hlr := { s.hlr with badRun := s.hlr.badRun + 1 }, flags := s.flags ||| Event.linkCrc.bit } := by
  have : s.hlr.badRun + 1 < 4 := by omega
  simp only [State.syncFail, State.raise_hlr, this, if_true]
  rfl

/-- R4: the fourth failing frame in a row loses the link. -/
theorem State.syncFail_of_le {s : State} (h : 3 ≤ s.hlr.badRun) :
    s.syncFail =
      State.askResync
        { s with
          hlr := { s.hlr with link := .hunt, goodRun := 0, badRun := 0 }
          flags := s.flags ||| Event.linkCrc.bit ||| Event.linkLost.bit } .linkLost := by
  have : ¬s.hlr.badRun + 1 < 4 := by omega
  simp only [State.syncFail, State.raise_hlr, this, if_false]
  rfl

/-- Settles O6: a passing frame by its classification, a failing one by the run of failures it joins. -/
theorem framesInSync : Obligations.FramesInSync := by
  refine ⟨fun bytes kind payload s h hc => ?_, fun bytes s h hc => ?_⟩
  · have hr := congrArg State.settled (State.receiveBytes_of_listens h hc)
    refine ⟨fun r hclass => hr.trans ?_, fun hclass => hr.trans ?_⟩
    · have hc' : classify s.passed.variant kind payload = some r := hclass
      simp only [State.classified, hc']
      rfl
    · have hc' : classify s.passed.variant kind payload = none := hclass
      simp only [State.classified, hc']
      rfl
  · have hf : s.receiveBytes bytes = s.syncFail := by
      rw [State.receiveBytes_of_fail h.1 hc, State.frameFails, h.2]
    have hr := congrArg State.settled hf
    exact ⟨fun hrun => hr.trans (by rw [State.syncFail_of_lt hrun]; rfl),
      fun hrun => hr.trans (by rw [State.syncFail_of_le hrun]; rfl)⟩

end Sys2Proof.Machine
end

section
/-! PROOFS. Stream time and the records it orders (O8, O9), the tracker's work on a FIRE (O13). -/

namespace Sys2Proof.Machine

/-! ### The comparison with stream time (section 1.5) -/

theorem lead_eq_zero_iff (t now : Timestamp) : (t - now).toNat = 0 ↔ t = now := by
  rw [BitVec.toNat_eq]
  have := t.isLt
  have := now.isLt
  rw [BitVec.toNat_sub]
  omega

/-- 00_scope: lead and lag of two different times make up the whole turn. -/
theorem lead_add_lag {t now : Timestamp} (h : t ≠ now) : (t - now).toNat + (now - t).toNat = 2 ^ 40 := by
  rw [ne_eq, BitVec.toNat_eq] at h
  have := t.isLt
  have := now.isLt
  rw [BitVec.toNat_sub, BitVec.toNat_sub]
  omega

/-- R8, R10, R11: the comparison in lead and lag. -/
theorem compareTime_cases (now t : Timestamp) (slack : Nat) :
    (t = now ∧ compareTime (some now) slack t = .same) ∨
      (t ≠ now ∧ (t - now).toNat < 2 ^ 39 ∧ compareTime (some now) slack t = .advance) ∨
      (t ≠ now ∧ 2 ^ 39 ≤ (t - now).toNat ∧ (now - t).toNat ≤ slack ∧ compareTime (some now) slack t = .late) ∨
      (t ≠ now ∧ 2 ^ 39 ≤ (t - now).toNat ∧ slack < (now - t).toNat ∧ compareTime (some now) slack t = .jump) := by
  unfold compareTime
  by_cases h0 : t = now
  · exact .inl ⟨h0, by simp [h0]⟩
  · by_cases h1 : (t - now).toNat < 2 ^ 39
    · exact .inr (.inl ⟨h0, h1, by simp only [h0, h1, if_true, if_false]⟩)
    · by_cases h2 : (now - t).toNat ≤ slack
      · exact .inr (.inr (.inl ⟨h0, by omega, h2, by simp only [h0, h1, h2, if_true, if_false]⟩))
      · exact .inr (.inr (.inr ⟨h0, by omega, by omega, by simp only [h0, h1, h2, if_false]⟩))

/-- Settles O8: lead and lag of different times add up to 2^40, so that the four ranges of the cases exclude each other. -/
theorem leadAndLagDecideTheComparison : Obligations.LeadAndLagDecideTheComparison := by
  intro now t slack hslack
  have hzero := lead_eq_zero_iff t now
  have hsum := lead_add_lag (t := t) (now := now)
  refine ⟨rfl, ?_⟩
  rcases compareTime_cases now t slack with ⟨rfl, hc⟩ | ⟨hne, hlead, hc⟩ | ⟨hne, hlead, hlag, hc⟩ |
    ⟨hne, hlead, hlag, hc⟩
  · rw [hc]; simp
  · have := hsum hne
    have := mt hzero.mp hne
    simp only [hc, reduceCtorEq, true_iff, false_iff]
    omega
  · have := hsum hne
    simp only [hc, reduceCtorEq, true_iff, false_iff]
    omega
  · have := hsum hne
    simp only [hc, reduceCtorEq, true_iff, false_iff]
    omega

/-! ### The records that carry a time -/

/-- Section 1.5: a record of each outcome, its own handling left open. -/
theorem State.timed_outcomes (s : State) (t : Timestamp) (handle : State → State) :
    (compareTime s.hlr.streamTime s.params.timeSlack t = .advance → s.timed t handle = handle (s.advance t)) ∧
      (compareTime s.hlr.streamTime s.params.timeSlack t = .same → s.timed t handle = handle s) ∧
      (compareTime s.hlr.streamTime s.params.timeSlack t = .late → s.timed t handle = handle s) ∧
      (compareTime s.hlr.streamTime s.params.timeSlack t = .jump → s.timed t handle = s.timeJump t) := by
  unfold State.timed
  refine ⟨fun h => ?_, fun h => ?_, fun h => ?_, fun h => ?_⟩ <;> rw [h]

/-- R14: the row of a record that a listening part handles under a timestamp, in each outcome of the comparison. -/
theorem exec_timed {i : Instr} {r : Record} {t : Timestamp} {handle : State → State} {s : State}
    (hi : recordOf i = some (r, none)) (hd : ∀ u : State, u.deliver r = u.timed t handle) (h : s.listens) :
    (compareTime s.hlr.streamTime s.params.timeSlack t = .advance →
        exec i s = .next (handle (s.passed.advance t)).settleRead) ∧
      (compareTime s.hlr.streamTime s.params.timeSlack t = .same → exec i s = .next (handle s.passed).settleRead) ∧
      (compareTime s.hlr.streamTime s.params.timeSlack t = .late → exec i s = .next (handle s.passed).settleRead) ∧
      (compareTime s.hlr.streamTime s.params.timeSlack t = .jump →
        exec i s = .next (s.passed.timeJump t).settleRead) := by
  have he : exec i s = .next (s.passed.timed t handle).settleRead := by
    rw [exec_of_recordOf s hi, State.receiveRecord_of_listens _ _ (s.listens_atLines none h), ← hd]
    rfl
  obtain ⟨hadvance, hsame, hlate, hjump⟩ := s.passed.timed_outcomes t handle
  rw [he]
  exact ⟨fun hc => by rw [hadvance hc], fun hc => by rw [hsame hc], fun hc => by rw [hlate hc],
    fun hc => by rw [hjump hc]⟩

/-- R41: the test of the model is the condition of the manual. -/
theorem State.startConditions_iff_ready (s : State) : s.startConditions = true ↔ s.ready := by
  simp only [State.startConditions, State.ready, Tbs.requiredValid, Bool.and_eq_true, decide_eq_true_eq, and_assoc,
    List.all_eq_true]
  refine and_congr_right fun _ => and_congr_right fun _ => ⟨fun h t ht => h t ?_, fun h t ht => h t ?_⟩
  · cases t <;> simp at ht ⊢
  · rintro rfl
    simp at ht

/-- R44, R41: the pulse under each run state. -/
theorem State.considerPulse_spec (u : State) (t : Timestamp) (k : Handoff) :
    (u.emq.run = .stopped ∨ u.emq.run = .draining → u.considerPulse t k = u) ∧
    (u.emq.run = .running → u.considerPulse t k = u.judgePulse t k) ∧
    (u.emq.run = .waiting → ¬u.ready → u.considerPulse t k = u) ∧
    (u.emq.run = .waiting → u.ready → u.considerPulse t k = u.tryStart.judgePulse t k) := by
  rw [← State.startConditions_iff_ready]
  unfold State.considerPulse
  refine ⟨?_, fun h => by rw [h], fun h hr => by simp [h, hr], fun h hr => by simp [h, hr]⟩
  rintro (h | h) <;> rw [h]

/-- R41: the start of the stream, written out. -/
theorem State.tryStart_of_ready {u : State} (hw : u.emq.run = .waiting) (hr : u.ready) :
    u.tryStart =
      { u with
        emq := { u.emq with run := .running }
        flags := u.flags ||| Event.streamStarted.bit
        exu := if u.variant = .p4c then { u.exu with seek := true } else u.exu } := by
  rw [← State.startConditions_iff_ready] at hr
  unfold State.tryStart
  rw [if_pos ⟨hw, hr⟩]
  refine State.ext_blocks ?_ ?_ ?_ ?_ ?_ ?_ ?_ ?_ ?_ ?_ ?_ ?_ ?_ ?_ ?_ ?_
  case refine_10 => rw [State.noticeSeek_exu]; rfl
  all_goals simp

/-- R56: an echo under each run state. -/
theorem State.handleEcho_spec (u : State) (t : Timestamp) (amplitude : BitVec 12) (width : BitVec 10) :
    (u.emq.run = .stopped ∨ u.emq.run = .waiting → u.handleEcho t amplitude width = u) ∧
    (u.emq.run = .running ∨ u.emq.run = .draining →
      u.handleEcho t amplitude width =
        (State.pipelineRequests (u.echoRequests t amplitude.toNat) u).decideEcho t amplitude width) := by
  unfold State.handleEcho
  constructor <;> rintro (h | h) <;> rw [h]

/-- Settles O9: each record's row by the comparison with stream time, then its handling by the run state. -/
theorem timedRecordsAreHandledInOrder : Obligations.TimedRecordsAreHandledInOrder := by
  refine ⟨fun t s h => ?_, fun t m a s h => ?_, fun t a w s h => ?_, fun u t k => ?_, fun u t a w => ?_⟩
  · exact exec_timed (handle := fun u => u) rfl (fun _ => rfl) h
  · exact exec_timed (handle := fun u => u.handleFire t m a) rfl (fun _ => rfl) h
  · exact exec_timed (handle := fun u => u.handleEcho t a w) rfl (fun _ => rfl) h
  · obtain ⟨hidle, hrun, hnot, hstart⟩ := u.considerPulse_spec t k
    exact ⟨hidle, hrun, hnot, fun hw hr => by rw [hstart hw hr, State.tryStart_of_ready hw hr]⟩
  · obtain ⟨hidle, hrun⟩ := u.handleEcho_spec t a w
    refine ⟨hidle, fun h => ⟨hrun h, fun hnone => ?_⟩⟩
    rw [hrun h, State.pipelineRequests_of_idle _ _ (u.commandWaits_of_none hnone)]

/-! ### A FIRE at the tracker (R24, R26, R32, R33) -/

/-- R33: a formed facet against the last one. -/
theorem Ant.countSweep_spec (a : Ant) (f : Nat) :
    (∀ l, a.lastFacet = some l → l ≠ f →
      isBoundary a.lastFacet (some f) = true ∧
        a.countSweep (some f) = { a with lastFacet := some f, sweep := a.sweep + 1 }) ∧
    (a.lastFacet = some f → isBoundary a.lastFacet (some f) = false ∧ a.countSweep (some f) = a) ∧
    (a.lastFacet = none →
      isBoundary a.lastFacet (some f) = false ∧ a.countSweep (some f) = { a with lastFacet := some f }) ∧
    isBoundary a.lastFacet none = false ∧ a.countSweep none = a := by
  refine ⟨fun l hl hne => ?_, fun hl => ?_, fun hl => ?_, ?_, rfl⟩
  · simp [isBoundary, Ant.countSweep, hl, hne]
  · cases a
    simp_all [isBoundary, Ant.countSweep]
  · simp [isBoundary, Ant.countSweep, hl]
  · cases a.lastFacet <;> rfl

/-- R24, R25: which samples raise something: the first rejection and the eighth. -/
theorem Channel.sample_event (c : Channel) (bits limit x : Nat) :
    (c.state = .tracking → c.accepts bits limit x = false → (c.sample bits limit x).2 = .hold) ∧
    (c.state = .holding → c.accepts bits limit x = false → 8 ≤ c.rejectRun + 1 → (c.sample bits limit x).2 = .fault) ∧
    (¬(c.state = .tracking ∧ c.accepts bits limit x = false) →
      ¬(c.state = .holding ∧ c.accepts bits limit x = false ∧ 8 ≤ c.rejectRun + 1) →
      (c.sample bits limit x).2 = .quiet) := by
  unfold Channel.sample
  cases hs : c.state with
  | unlocked => simp
  | acquiring => simp
  | tracking => cases ha : c.accepts bits limit x <;> simp
  | holding =>
    by_cases hr : c.rejectRun + 1 < 8
    · cases ha : c.accepts bits limit x <;> simp [hr]
      omega
    · cases ha : c.accepts bits limit x <;> simp [hr]
      omega
  | fault =>
    cases ha : c.accepts bits limit x
    · simp
    · by_cases hg : c.goodRun + 1 < 4 <;> simp [hg]

/-- R23: a sample is rejected when it lies beyond the limit of the prediction. -/
theorem Channel.accepts_eq_false_iff (c : Channel) (bits limit x : Nat) :
    c.accepts bits limit x = false ↔ limit < (signedMod bits ((x : Int) - (c.predicted bits : Int))).natAbs := by
  simp [Channel.accepts]

/-- Settles O13: the facet's change, what each sample raises, and the order of the tracker's work on a FIRE. -/
theorem trackerHandlesAFire : Obligations.TrackerHandlesAFire := by
  refine ⟨Ant.countSweep_spec, fun s id raw => ?_, fun s m a => rfl⟩
  obtain ⟨hhold, hfault, hquiet⟩ := (s.ant.channel id).sample_event (s.params.bits id) (s.params.limit id)
    (significant (s.params.bits id) raw)
  rw [Channel.accepts_eq_false_iff] at hhold hfault hquiet
  refine ⟨fun hs hr => ?_, fun hs hr hrun => ?_, fun h1 h2 => ?_⟩
  · have he := hhold hs hr
    simp only [State.handleSample, he]
    cases id <;> rfl
  · have he := hfault hs hr hrun
    simp only [State.handleSample, he]
    cases id <;> rfl
  · have he := hquiet h1 h2
    simp only [State.handleSample, he]
    rfl

end Sys2Proof.Machine
end

section
/-! PROOFS. Resyncs (O17) and TILE records (O35). -/

namespace Sys2Proof.Machine

/-! ### Resyncs (R51 to R55) -/

/-- R51, R53: what a resync does before the run state ends it: the queue flushed, the marker offered behind the batch. -/
def State.flushAndMark (s : State) (reason : ResyncReason) : State :=
  State.offerMarker
    { s with
      emq :=
        { s.emq with
          queue := [], flushed := s.emq.flushed + BitVec.ofNat 32 s.emq.queue.length, lastResync := some reason }
      eca := { s.eca with free := s.eca.free + heldEchoes s.emq.queue, zoneTrack := List.replicate 64 0 }
      flags := s.flags ||| Event.resync.bit }
    (.rsy reason s.emq.queue.length s.emq.lastClosed)

theorem State.doResync_eq (s : State) (reason : ResyncReason) :
    s.doResync reason = (s.flushAndMark reason).endResync reason := rfl

theorem State.flushAndMark_emq (s : State) (reason : ResyncReason) :
    (s.flushAndMark reason).emq =
      { s.emq with
        queue := [], flushed := s.emq.flushed + BitVec.ofNat 32 s.emq.queue.length, lastResync := some reason } := by
  simp [State.flushAndMark]

/-- R52, R55: the end of a resync under each run state. -/
theorem State.endResync_spec (s : State) (reason : ResyncReason) :
    (s.emq.run = .running → reason = .command ∨ reason = .timeJump → s.endResync reason = s) ∧
    (s.emq.run = .running → ¬(reason = .command ∨ reason = .timeJump) →
      s.endResync reason = s.onEmq fun q => { q with run := .waiting }) ∧
    (s.emq.run = .draining → s.endResync reason = s.enterStopped) ∧
    (s.emq.run = .stopped ∨ s.emq.run = .waiting → s.endResync reason = s) := by
  unfold State.endResync
  refine ⟨fun h hk => ?_, fun h hk => ?_, fun h => by rw [h], fun h => ?_⟩
  · rw [h]
    rcases hk with rfl | rfl <;> rfl
  · rw [h]
    cases reason <;> simp at hk ⊢
  · rcases h with h | h <;> rw [h]

/-- Settles O17: the flush and the marker are the same in every run state, and R52's end is decided by it. -/
theorem resyncFlushesTheQueue : Obligations.ResyncFlushesTheQueue := by
  refine ⟨fun s reason => ⟨fun h => ?_, fun h => ?_⟩, fun tag s h => ?_, fun s reason => ?_⟩
  · unfold State.askResync
    rcases h with h | h <;> rw [h]
  · unfold State.askResync
    rcases h with h | h <;> rw [h]
  · exact exec_of_takes s (i := .resync tag []) rfl h (Nat.zero_le _)
  · have hemq := s.flushAndMark_emq reason
    have hrun : (s.flushAndMark reason).emq.run = s.emq.run := by rw [hemq]
    obtain ⟨hkeep, hlost, hdrain, hidle⟩ := (s.flushAndMark reason).endResync_spec reason
    rw [hrun] at hkeep hlost hdrain hidle
    rw [State.doResync_eq]
    refine ⟨hkeep, fun h hk => ?_, hdrain, hidle⟩
    rw [hlost h hk, State.onEmq, hemq]
    rfl

/-! ### Tiles (R137 to R141) -/

/-- R6, R15: the row of a TILE at a listening part. -/
theorem exec_tile {s : State} (h : s.listens) (n : BitVec 16) (status : TileStatus) (cols rows : Byte)
    (cells : List Rgb) :
    exec (.tile n status cols rows cells) s = .next (s.passed.deliverTile n status cols rows cells).settleRead := by
  rw [exec_of_recordOf s (i := .tile n status cols rows cells) rfl, State.receiveRecord_of_listens _ _
    (s.listens_atLines none h)]
  rfl

/-- R6: the tile tests that a P4C makes of a delivered TILE. -/
def TileFits (variant : Variant) (status : TileStatus) (cols rows : Byte) (cells : List Rgb) : Prop :=
  variant = .p4c ∧ (1 ≤ cols.toNat ∧ cols.toNat ≤ 32 ∧ 1 ≤ rows.toNat ∧ rows.toNat ≤ 64) ∧
    cells.length = if status = .ok then cols.toNat * rows.toNat else 0

theorem tileFits_iff (variant : Variant) (status : TileStatus) (cols rows : Byte) (cells : List Rgb) :
    TileFits variant status cols rows cells ↔ variant = .p4c ∧ tileFieldsOk status cols rows cells = true := by
  simp only [TileFits, tileFieldsOk, decide_eq_true_eq, and_assoc]

/-- R6, R15: a TILE that fails the tests is refused; one that passes is matched to its record. -/
theorem State.deliverTile_spec (s : State) (n : BitVec 16) (status : TileStatus) (cols rows : Byte) (cells : List Rgb) :
    (¬TileFits s.variant status cols rows cells → s.deliverTile n status cols rows cells = s.rejectFrame) ∧
      (TileFits s.variant status cols rows cells →
        s.deliverTile n status cols rows cells = s.handleTile n status cols.toNat rows.toNat cells) := by
  rw [tileFits_iff]
  exact ⟨fun h => if_neg h, fun h => if_pos h⟩

/-- R137 to R140: a TILE by its record, its status and the room in the store. -/
theorem State.handleTile_spec (s : State) (n : BitVec 16) (status : TileStatus) (cols rows : Nat) (cells : List Rgb) :
    (s.exu.awaiting n = none → s.handleTile n status cols rows cells = s.tileUnmatched n) ∧
    ∀ r, s.exu.awaiting n = some r →
      (status = .failed → s.handleTile n status cols rows cells = s.tileFails r .failed) ∧
      (status = .busy → s.handleTile n status cols rows cells = s.tileFails r .busy) ∧
      (status = .ok → s.exu.tiles.length < 4 →
        s.handleTile n status cols rows cells = s.tileStored r cols rows cells) ∧
      (status = .ok → 4 ≤ s.exu.tiles.length → s.handleTile n status cols rows cells = s.tileDrops r) := by
  unfold State.handleTile
  refine ⟨fun h => by rw [h], fun r h => ?_⟩
  rw [h]
  refine ⟨fun hs => by rw [hs], fun hs => by rw [hs], fun hs hl => ?_, fun hs hl => ?_⟩
  · simp only [hs]
    exact if_pos hl
  · simp only [hs]
    exact if_neg (not_lt.mpr hl)

/-- Settles O35: the tile tests first, then the awaiting record, the status and the room in the store. -/
theorem tileIsMatchedToItsExposure : Obligations.TileIsMatchedToItsExposure := by
  intro n status cols rows cells s h
  obtain ⟨hrefuse, hmatch⟩ := s.passed.deliverTile_spec n status cols rows cells
  obtain ⟨hnone, hsome⟩ := s.passed.handleTile_spec n status cols.toNat rows.toNat cells
  rw [exec_tile h]
  refine ⟨fun hf => ?_, fun hf hfound => ?_, fun r hf hfound => ?_⟩
  · rw [hrefuse hf]
  · rw [hmatch hf, hnone hfound]
    rfl
  · obtain rfl : r.number = n := (Exu.awaiting_mem (x := s.exu) hfound).2
    obtain ⟨hfailed, hbusy, hstored, hdrops⟩ := hsome r hfound
    rw [hmatch hf]
    refine ⟨fun hs => ?_, fun hs => ?_, fun hs hl => ?_, fun hs hl => ?_⟩
    · rw [hfailed hs]
      rfl
    · rw [hbusy hs]
      rfl
    · rw [hstored hs hl]
      rfl
    · rw [hdrops hs hl]
      rfl

end Sys2Proof.Machine
end

section
/-! PROOFS. Eviction, PULSE_CLOSE and the closing of an advance (O15). -/

namespace Sys2Proof.Machine

/-! ### Expiry (R48) -/

/-- R48: a pulse has expired when stream time is set and more than its ListenTicks past its firing (log entry 28). -/
theorem State.expired_iff (s : State) (p : Pulse) :
    s.expired p = true ↔
      ∃ now : Timestamp, s.hlr.streamTime = some now ∧ (s.bankFor p).listenTicks < (now - p.tFire).toNat := by
  unfold State.expired
  cases s.hlr.streamTime <;> simp

/-- Expiry reads stream time, the two banks of open pulses and the generation alone. -/
theorem State.expired_congr {s t : State} (hhlr : t.hlr = s.hlr) (hactive : t.tbs.bankActive = s.tbs.bankActive)
    (hretiring : t.tbs.retiring = s.tbs.retiring) (hgen : t.tbs.generation = s.tbs.generation) (p : Pulse) :
    t.expired p = s.expired p := by
  have hbank : t.bankFor p = s.bankFor p := by simp only [State.bankFor, Tbs.bankOf, hactive, hretiring, hgen]
  unfold State.expired
  rw [hhlr, hbank]

theorem State.expired_pipelineRequest (s : State) (p : Pulse) : s.pipelineRequest.expired p = s.expired p :=
  State.expired_congr (by simp) (by simp) (by simp) (by simp) p

/-! ### One close (R49) -/

/-- R49: a close that does not end a drain. -/
theorem State.closeHead_of_stays {s : State} {p : Pulse} {rest : List Pulse} (h : s.emq.queue = p :: rest)
    (hd : ¬(s.emq.run = .draining ∧ rest = [])) (e : Bool) :
    s.closeHead e =
      (((s.onEmq fun q => { q with queue := rest }).formPoints p e).onEca fun x =>
        { x with free := x.free + p.echoes.length }).onEmq fun q =>
          { q with closed := q.closed + 1, lastClosed := some p.seq } := by
  unfold State.closeHead
  rw [h]
  exact if_neg (by simpa using hd)

/-- R49: the whole Emission Queue after a close. -/
theorem State.closeHead_emq_eq {s : State} {p : Pulse} {rest : List Pulse} (h : s.emq.queue = p :: rest) (e : Bool) :
    (s.closeHead e).emq =
      { s.emq with
        run := if s.emq.run = .draining ∧ rest = [] then .stopped else s.emq.run
        queue := rest
        closed := s.emq.closed + 1
        lastClosed := some p.seq } := by
  obtain ⟨hqueue, haccepted, hclosed, hflushed, hevicted, hlast, hresync⟩ := s.closeHead_emq h e
  have hrun := s.closeHead_run h e
  generalize (s.closeHead e).emq = x at *
  cases x
  simp_all

/-- R83: LastSweep after a close. -/
theorem State.closeHead_ptf {s : State} {p : Pulse} {rest : List Pulse} (h : s.emq.queue = p :: rest) (e : Bool) :
    (s.closeHead e).ptf = { lastSweep := some p.sweep } := by
  have hsweep : (s.closeHead e).ptf.lastSweep = some p.sweep := by
    unfold State.closeHead
    simp [h]
  rw [← hsweep]

/-- R48: with pulses left behind it, the close of the head leaves the expiry of every pulse. -/
theorem State.expired_closeHead {s : State} {p q : Pulse} {rest : List Pulse} (h : s.emq.queue = p :: q :: rest)
    (e : Bool) (x : Pulse) : (s.closeHead e).expired x = s.expired x := by
  rw [State.closeHead_of_stays h (by simp)]
  exact State.expired_congr (by simp) (by simp) (by simp) (by simp) x

/-! ### The closing of an advance (R9, R48) -/

/-- What closing the first `k` pulses of a queue means: each had expired, and each counts and gives its entries back. -/
def ClosesFront (s t : State) (k : Nat) : Prop :=
  k ≤ s.emq.queue.length ∧
    t.emq.queue = s.emq.queue.drop k ∧
    t.emq.closed = s.emq.closed + BitVec.ofNat 32 k ∧
    (∀ p ∈ s.emq.queue.take k, s.expired p = true) ∧
    (∀ p ∈ t.emq.queue.head?, s.expired p = false) ∧
    t.eca.free + heldEchoes t.emq.queue = s.eca.free + heldEchoes s.emq.queue

/-- The closing stops where the head has not expired, or where no pulse is left. -/
theorem closesFront_zero {s t : State} (hemq : t.emq = s.emq) (heca : t.eca = s.eca)
    (hhead : ∀ p ∈ s.emq.queue.head?, s.expired p = false) : ClosesFront s t 0 := by
  simp only [ClosesFront, hemq, heca]
  exact ⟨Nat.zero_le _, rfl, by simp, by simp, hhead, trivial⟩

/-- One expired pulse closed ahead of the front ones of the rest. -/
theorem closesFront_succ {s u t : State} {p : Pulse} {rest : List Pulse} {k : Nat} (h : s.emq.queue = p :: rest)
    (hp : s.expired p = true) (hqueue : u.emq.queue = rest) (hclosed : u.emq.closed = s.emq.closed + 1)
    (hfree : u.eca.free = s.eca.free + p.echoes.length) (hexp : ∀ x ∈ rest, u.expired x = s.expired x)
    (ht : ClosesFront u t k) : ClosesFront s t (k + 1) := by
  obtain ⟨hk, hq, hc, htake, hhead, hpool⟩ := ht
  rw [hqueue] at hk hq htake hpool
  refine ⟨by rw [h]; simpa using hk, by rw [h]; simpa using hq, ?_, ?_, fun x hx => ?_, ?_⟩
  · rw [hc, hclosed, BitVec.ofNat_add, BitVec.add_assoc, BitVec.add_comm 1]
    rfl
  · rw [h, List.take_succ_cons]
    intro x hx
    rcases List.mem_cons.mp hx with rfl | hx
    · exact hp
    · rw [← hexp x (List.mem_of_mem_take hx)]
      exact htake x hx
  · have hmem : x ∈ rest := List.mem_of_mem_drop (hq ▸ List.mem_of_mem_head? hx)
    rw [← hexp x hmem]
    exact hhead x hx
  · rw [hpool, hfree, h, heldEchoes_cons]
    omega

/-- R48: closing with enough fuel removes expired pulses from the front and leaves a head that has not expired. -/
theorem closeExpired_closesFront (n : Nat) (s : State) (hn : s.emq.queue.length = n) :
    ∃ k, ClosesFront s (closeExpired n s) k := by
  induction n generalizing s with
  | zero =>
    have hq := List.length_eq_zero_iff.mp hn
    exact ⟨0, closesFront_zero rfl rfl (by simp [hq])⟩
  | succ n ih =>
    obtain ⟨p, rest, h⟩ := List.exists_cons_of_length_eq_add_one hn
    have hr : s.pipelineRequest.emq.queue = p :: rest := by simpa using h
    have hexpr := s.expired_pipelineRequest
    simp only [closeExpired, h, hexpr]
    cases hp : s.expired p with
    | false => exact ⟨0, closesFront_zero (by simp) (by simp) (by simp [h, hp])⟩
    | true =>
      have hemq := State.closeHead_emq_eq hr false
      obtain ⟨k, hk⟩ := ih (s.pipelineRequest.closeHead false) (by rw [hemq]; simpa [h] using hn)
      refine ⟨k + 1, closesFront_succ h hp (by rw [hemq]) (by simp [hemq]) ?_ ?_ hk⟩
      · simp [State.closeHead_eca _ hr]
      · intro x hx
        cases rest with
        | nil => simp at hx
        | cons q rest => rw [State.expired_closeHead hr, hexpr]

/-! ### Eviction (R46) -/

/-- R46, log entry 5: whichever of event and frames comes first, the head is closed as evicted and QUEUE_EVICT stands. -/
theorem State.evictHead_eq (s : State) :
    ∃ first : Bool,
      s.evictHead =
        (((if first then s.raise .queueEvict else s).drawFree.closeHead true).raise .queueEvict).onEmq fun q =>
          { q with evicted := satSucc 65535 q.evicted } :=
  ⟨Config.evictEventFirst s.freeCount, rfl⟩

theorem State.hasEvent_of_flags {s : State} {flags : EventSet} {e : Event} (h : s.flags = flags ||| e.bit) :
    s.hasEvent e = true := by
  have hbit : e.bit.getLsbD e.id = true := by cases e <;> decide
  rw [State.hasEvent, h, BitVec.getLsbD_or, hbit, Bool.or_true]

/-- R46, R49: what an eviction in RUNNING leaves of each block. -/
theorem State.evictHead_of_running {s : State} {p : Pulse} {rest : List Pulse} (hrun : s.emq.run = .running)
    (h : s.emq.queue = p :: rest) :
    s.evictHead.emq =
        { s.emq with
          queue := rest
          closed := s.emq.closed + 1
          lastClosed := some p.seq
          evicted := satSucc 65535 s.emq.evicted } ∧
      s.evictHead.eca = { s.eca with free := s.eca.free + p.echoes.length } ∧
      s.evictHead.hasEvent .queueEvict = true ∧ s.evictHead.exu = s.exu := by
  obtain ⟨first, hevict⟩ := s.evictHead_eq
  generalize hu : (if first then s.raise .queueEvict else s).drawFree = u at hevict
  have hemq : u.emq = s.emq := by rw [← hu]; cases first <;> rfl
  have heca : u.eca = s.eca := by rw [← hu]; cases first <;> rfl
  have hexu : u.exu = s.exu := by rw [← hu]; cases first <;> rfl
  have hclose := State.closeHead_of_stays (s := u) (p := p) (rest := rest) (by rw [hemq, h]) (by simp [hemq, hrun]) true
  have hflags : s.evictHead.flags = (u.closeHead true).flags ||| Event.queueEvict.bit := by rw [hevict]; rfl
  refine ⟨?_, ?_, State.hasEvent_of_flags hflags, ?_⟩ <;> rw [hevict, hclose] <;> simp [hemq, heca, hexu]

/-! ### PULSE_CLOSE (R48, R49) -/

/-- R48, R49: PULSE_CLOSE on an expired head, on a head that listens and on an empty queue (log entries 10 and 12). -/
theorem exec_pulseClose (s : State) :
    (∀ (p : Pulse) (rest : List Pulse), s.emq.queue = p :: rest → s.expired p = true →
      exec .pulseClose s = .next (s.pipelineRequest.closeHead false).settleRead) ∧
    (∀ (p : Pulse) (rest : List Pulse), s.emq.queue = p :: rest → s.expired p = false →
      exec .pulseClose s = .next s.pipelineRequest.settleRead) ∧
    (s.emq.queue = [] → exec .pulseClose s = .next s.settleRead) := by
  refine ⟨fun p rest h hp => congrArg State.settled (a₂ := s.pipelineRequest.closeHead false) ?_,
    fun p rest h hp => congrArg State.settled (a₂ := s.pipelineRequest) ?_,
    fun h => congrArg State.settled (a₂ := s) ?_⟩
  · simp [State.pulseClose, h, State.expired_pipelineRequest, hp]
  · simp [State.pulseClose, h, State.expired_pipelineRequest, hp]
  · simp [State.pulseClose, h]

/-- Settles O15: the closing by induction on the pulses open, eviction and PULSE_CLOSE by the equation of one close. -/
theorem headIsEvictedOrClosed : Obligations.HeadIsEvictedOrClosed := by
  refine ⟨State.expired_iff, fun s => closeExpired_closesFront _ s rfl, fun s => ?_,
    fun s p rest hrun h => ?_, fun s => ?_⟩
  · obtain ⟨first, hevict⟩ := s.evictHead_eq
    refine ⟨first, hevict.trans ?_⟩
    cases first <;> rfl
  · obtain ⟨hemq, heca, hevent, hexu⟩ := State.evictHead_of_running hrun h
    exact ⟨hemq, heca, hevent, by simp, by simp, hexu, by simp, by simp, by simp⟩
  · obtain ⟨hcloses, hlistens, hempty⟩ := exec_pulseClose s
    refine ⟨fun p rest now h hnow hage => ?_, hlistens, hempty⟩
    have he := hcloses p rest h ((s.expired_iff p).mpr ⟨now, hnow, hage⟩)
    refine ⟨he, fun hnone => ⟨s.closeHead false, ?_, State.closeHead_emq_eq h false, s.closeHead_eca h false,
      State.closeHead_ptf h false, by simp, by simp, by simp, by simp⟩⟩
    rw [he, State.pipelineRequest_of_idle _ (s.commandWaits_of_none hnone)]

end Sys2Proof.Machine
end

section
/-! PROOFS. An INDEX at a channel (O10), and the samples of a FIRE at a channel, one and in runs (O11). -/

namespace Sys2Proof.Machine

/-! ### An INDEX (R20, R21) -/

/-- R20, R21: what an INDEX does to its channel, by the state and the distance from the reference. -/
theorem Channel.atIndex_spec (c : Channel) (bits margin count : Nat) :
    (c.state = .unlocked → c.atIndex bits margin count = (c.restart count, false)) ∧
    (c.state ≠ .unlocked → c.slips bits margin count = false → c.atIndex bits margin count = (c, false)) ∧
    (c.state ≠ .unlocked → c.slips bits margin count = true →
      c.atIndex bits margin count = (c.restart count, true)) := by
  unfold Channel.atIndex
  cases hs : c.state with
  | unlocked => simp
  | acquiring | tracking | holding | fault => cases c.slips bits margin count <;> simp

@[simp] theorem Ant.setChannel_channel (a : Ant) (id : ChannelId) : a.setChannel id (a.channel id) = a := by
  cases id <;> rfl

/-- R20: the row of an INDEX in a listening part. -/
theorem exec_index {s : State} (h : s.listens) (id : ChannelId) (raw : RawCount) :
    exec (.index id raw) s = .next (s.passed.handleIndex id raw).settleRead := by
  rw [exec_of_recordOf s rfl, State.receiveRecord_of_listens _ _ (s.listens_atLines none h)]
  rfl

/-- Settles O10: the row of an INDEX by the three ways it meets its channel. -/
theorem indexIsHeldAgainstTheReference : Obligations.IndexIsHeldAgainstTheReference := by
  refine ⟨fun _ => ⟨rfl, rfl, rfl, rfl, rfl, rfl⟩, fun _ _ => ⟨rfl, rfl, rfl, rfl⟩, fun id raw s h => ?_⟩
  obtain ⟨hunlocked, hheld, hslips⟩ := (s.ant.channel id).atIndex_spec (s.params.bits id) (s.params.margin id)
    (significant (s.params.bits id) raw)
  rw [exec_index h]
  refine ⟨fun hs => ?_, fun hs hoff => ?_, fun hs hoff => ?_⟩
  · have hindex := hunlocked hs
    simp only [State.handleIndex, State.passed_frame, hindex]
    rfl
  · have hindex := hheld hs (decide_eq_false (not_lt.mpr hoff))
    simp only [State.handleIndex, State.passed_frame, hindex]
    simp only [State.onAnt, State.passed_frame, Ant.setChannel_channel, Bool.false_eq_true, if_false]
    rfl
  · have hindex := hslips hs (decide_eq_true hoff)
    simp only [State.handleIndex, State.passed_frame, hindex]
    cases id <;> rfl

/-! ### One sample (R22 to R25) -/

theorem satSucc_eq_min {limit n : Nat} (h : n ≤ limit) : satSucc limit n = min limit (n + 1) := by
  unfold satSucc
  split <;> omega

/-- R24, R25: a rejected sample counts up to 255 and uses the prediction. -/
theorem Channel.takeRejected_eq {c : Channel} (h : c.rejectRun ≤ 255) (bits : Nat) :
    c.takeRejected bits = { c with rejectRun := min 255 (c.rejectRun + 1), used := c.predicted bits } := by
  rw [Channel.takeRejected, satSucc_eq_min h]

theorem Channel.set_state_self {c : Channel} {st : ChannelState} (h : c.state = st) : { c with state := st } = c := by
  subst h
  rfl

theorem Channel.sample_unlocked {c : Channel} (h : c.state = .unlocked) (bits limit x : Nat) :
    c.sample bits limit x = (c, .quiet) := by
  rw [Channel.sample, h]

theorem Channel.sample_acquiring {c : Channel} (h : c.state = .acquiring) (bits limit x : Nat) :
    c.sample bits limit x = (c.acquire bits x, .quiet) := by
  rw [Channel.sample, h]

/-- R23: an accepted sample in TRACKING or HOLDING. -/
theorem Channel.sample_accepted {c : Channel} {bits limit x : Nat} (h : c.state = .tracking ∨ c.state = .holding)
    (ha : c.accepts bits limit x = true) :
    c.sample bits limit x = ({ c.takeValid bits x with state := .tracking }, .quiet) := by
  rcases h with hs | hs
  · have hv : (c.takeValid bits x).state = .tracking := hs
    rw [Channel.set_state_self hv, Channel.sample, hs]
    exact if_pos ha
  · rw [Channel.sample, hs]
    exact if_pos ha

/-- R24: the first rejected sample holds a tracking channel. -/
theorem Channel.sample_tracking_rejected {c : Channel} {bits limit x : Nat} (h : c.state = .tracking)
    (ha : c.accepts bits limit x = false) :
    c.sample bits limit x = ({ c.takeRejected bits with state := .holding }, .hold) := by
  simp [Channel.sample, h, ha]

/-- R24: a rejected sample before the eighth, in HOLDING. -/
theorem Channel.sample_holding_rejected {c : Channel} {bits limit x : Nat} (h : c.state = .holding)
    (ha : c.accepts bits limit x = false) (hrun : c.rejectRun + 1 < 8) :
    c.sample bits limit x = (c.takeRejected bits, .quiet) := by
  simp [Channel.sample, h, ha, hrun]

/-- R24: the eighth rejected sample in a row faults a holding channel. -/
theorem Channel.sample_holding_faults {c : Channel} {bits limit x : Nat} (h : c.state = .holding)
    (ha : c.accepts bits limit x = false) (hrun : 8 ≤ c.rejectRun + 1) :
    c.sample bits limit x = ({ c.takeRejected bits with state := .fault, goodRun := 0 }, .fault) := by
  simp [Channel.sample, h, ha, not_lt.mpr hrun]

/-- R25: an accepted sample in FAULT, before the fourth in a row. -/
theorem Channel.sample_fault_accepted {c : Channel} {bits limit x : Nat} (h : c.state = .fault)
    (ha : c.accepts bits limit x = true) (hrun : c.goodRun + 1 < 4) :
    c.sample bits limit x = ({ c.takeValid bits x with goodRun := c.goodRun + 1 }, .quiet) := by
  simp [Channel.sample, h, ha, hrun]

/-- R25: the fourth accepted sample in a row returns a channel in FAULT to TRACKING. -/
theorem Channel.sample_fault_recovers {c : Channel} {bits limit x : Nat} (h : c.state = .fault)
    (ha : c.accepts bits limit x = true) (hrun : 4 ≤ c.goodRun + 1) :
    c.sample bits limit x = ({ c.takeValid bits x with state := .tracking, goodRun := 0 }, .quiet) := by
  simp [Channel.sample, h, ha, not_lt.mpr hrun]

/-- R25: a rejected sample in FAULT ends the run of accepted ones. -/
theorem Channel.sample_fault_rejected {c : Channel} {bits limit x : Nat} (h : c.state = .fault)
    (ha : c.accepts bits limit x = false) :
    c.sample bits limit x = ({ c.takeRejected bits with goodRun := 0 }, .quiet) := by
  simp [Channel.sample, h, ha]

/-! ### Runs of samples (R24, R25) -/

/-- Samples in a row at a channel. -/
def Channel.sampleAll (bits limit : Nat) (c : Channel) (xs : List Nat) : Channel :=
  xs.foldl (fun c x => (c.sample bits limit x).1) c

theorem Channel.sampleAll_concat (bits limit : Nat) (c : Channel) (xs : List Nat) (x : Nat) :
    c.sampleAll bits limit (xs ++ [x]) = ((c.sampleAll bits limit xs).sample bits limit x).1 :=
  List.foldl_concat ..

/-- 00_scope: a difference taken signed modulo 2^B may reduce what it subtracts first. -/
theorem signedMod_sub_toNat_emod (bits : Nat) (x v : Int) :
    signedMod bits (x - ((v % (2 ^ bits : Int)).toNat : Int)) = signedMod bits (x - v) := by
  have hpos : (0 : Int) < 2 ^ bits := by positivity
  rw [Int.toNat_of_nonneg (Int.emod_nonneg v hpos.ne'), signedMod, signedMod]
  exact_mod_cast Int.sub_emod_bmod x (2 ^ bits)

/-- R23: a sample is rejected when it lies beyond the limit of the extrapolated count, not yet reduced to B bits. -/
theorem Channel.accepts_eq_false_iff_extrapolation (c : Channel) (bits limit x : Nat) :
    c.accepts bits limit x = false ↔
      limit < (signedMod bits ((x : Int) - ((c.last : Int) + c.step * ((c.rejectRun : Int) + 1)))).natAbs := by
  rw [Channel.accepts_eq_false_iff, Channel.predicted, signedMod_sub_toNat_emod]

/-- R24: a tracking channel after `n` rejected samples in a row. -/
def Channel.extrapolated (c : Channel) (bits n : Nat) : Channel :=
  { c with
    state := if n < 8 then .holding else .fault
    rejectRun := n
    goodRun := if n < 8 then c.goodRun else 0
    used := (((c.last : Int) + c.step * (n : Int)) % (2 ^ bits : Int)).toNat }

/-- R24: the first rejected sample. -/
theorem Channel.sample_eq_extrapolated_one {c : Channel} {bits limit x : Nat} (hs : c.state = .tracking)
    (h0 : c.rejectRun = 0) (ha : c.accepts bits limit x = false) :
    (c.sample bits limit x).1 = c.extrapolated bits 1 := by
  rw [Channel.sample_tracking_rejected hs ha, Channel.takeRejected_eq (by omega)]
  simp [Channel.extrapolated, Channel.predicted, h0]

/-- R24: one more rejected sample, the second up to the eighth. -/
theorem Channel.sample_extrapolated {c : Channel} {bits limit x n : Nat} (hn : n < 8)
    (ha : (c.extrapolated bits n).accepts bits limit x = false) :
    ((c.extrapolated bits n).sample bits limit x).1 = c.extrapolated bits (n + 1) := by
  have hs : (c.extrapolated bits n).state = .holding := if_pos hn
  have hrun : (c.extrapolated bits n).rejectRun = n := rfl
  have hmin : min 255 (n + 1) = n + 1 := by omega
  by_cases hlast : n + 1 < 8
  · rw [Channel.sample_holding_rejected hs ha (hrun ▸ hlast), Channel.takeRejected_eq (by omega)]
    simp [Channel.extrapolated, Channel.predicted, hn, hlast, hmin]
  · rw [Channel.sample_holding_faults hs ha (by omega), Channel.takeRejected_eq (by omega)]
    simp [Channel.extrapolated, Channel.predicted, hlast, hmin]

/-- R24: up to eight rejected samples in a row from TRACKING, by induction on the samples, the last one first. -/
theorem Channel.sampleAll_rejected {c : Channel} {bits limit : Nat} (hs : c.state = .tracking) (h0 : c.rejectRun = 0)
    (xs : List Nat) (hpos : 1 ≤ xs.length) (hlen : xs.length ≤ 8)
    (hout : ∀ (k x : Nat), xs[k]? = some x →
      limit < (signedMod bits ((x : Int) - ((c.last : Int) + c.step * ((k : Int) + 1)))).natAbs) :
    c.sampleAll bits limit xs = c.extrapolated bits xs.length := by
  induction xs using List.reverseRecOn with
  | nil => simp at hpos
  | append_singleton xs x ih =>
    rw [List.length_append, List.length_singleton] at hlen
    have hx := hout xs.length x (by simp)
    rw [Channel.sampleAll_concat, List.length_append, List.length_singleton]
    rcases Nat.eq_zero_or_pos xs.length with hnil | hsome
    · obtain rfl := List.length_eq_zero_iff.mp hnil
      refine Channel.sample_eq_extrapolated_one hs h0 ((c.accepts_eq_false_iff_extrapolation ..).mpr ?_)
      rw [h0]
      exact hx
    · rw [ih hsome (by omega) fun k y hk => hout k y (by
        rw [List.getElem?_append_left (List.getElem?_eq_some_iff.mp hk).1, hk])]
      exact Channel.sample_extrapolated (by omega) ((Channel.accepts_eq_false_iff_extrapolation ..).mpr hx)

/-- R25: up to four accepted samples in a row from FAULT. -/
theorem Channel.sampleAll_accepted {c : Channel} {bits limit : Nat} (hs : c.state = .fault) (h0 : c.goodRun = 0)
    (xs : List Nat) (hlen : xs.length ≤ 4)
    (hin : ∀ (k x : Nat), xs[k]? = some x → (c.sampleAll bits limit (xs.take k)).accepts bits limit x = true) :
    (c.sampleAll bits limit xs).state = (if xs.length < 4 then .fault else .tracking) ∧
      (c.sampleAll bits limit xs).goodRun = if xs.length < 4 then xs.length else 0 := by
  induction xs using List.reverseRecOn with
  | nil => exact ⟨hs, h0⟩
  | append_singleton xs x ih =>
    rw [List.length_append, List.length_singleton] at hlen
    have hx := hin xs.length x (by simp)
    rw [List.take_left] at hx
    have hbefore := ih (by omega) fun k y hk => by
      have hklt := (List.getElem?_eq_some_iff.mp hk).1
      have hy := hin k y (by rw [List.getElem?_append_left hklt, hk])
      rwa [List.take_append_of_le_length hklt.le] at hy
    obtain ⟨hstate, hgood⟩ := hbefore
    rw [if_pos (by omega)] at hstate hgood
    rw [Channel.sampleAll_concat, List.length_append, List.length_singleton]
    by_cases hlast : xs.length + 1 < 4
    · rw [Channel.sample_fault_accepted hstate hx (by omega), if_pos hlast, if_pos hlast]
      exact ⟨hstate, congrArg (· + 1) hgood⟩
    · rw [Channel.sample_fault_recovers hstate hx (by omega), if_neg hlast, if_neg hlast]
      exact ⟨rfl, rfl⟩

/-- Settles O11: one sample by the channel's state, then the two runs by induction on their samples. -/
theorem eightRejectedSamplesMakeAFault : Obligations.EightRejectedSamplesMakeAFault := by
  refine ⟨fun c bits limit x => ?_, fun c bits limit xs => ⟨fun hs h0 hpos hlen hout => ?_, fun hs h0 hlen hin => ?_⟩⟩
  · have haccepts : c.accepts bits limit x = true ↔
        (signedMod bits ((x : Int) - (c.predicted bits : Int))).natAbs ≤ limit := decide_eq_true_iff
    have hrejects := fun h => (c.accepts_eq_false_iff bits limit x).mpr (not_le.mp h)
    refine ⟨haccepts, fun hs => Channel.sample_unlocked hs .., fun hs hfirst => ?_, fun hs hsecond => ?_,
      fun hs ha => Channel.sample_accepted hs (haccepts.mpr ha), fun hrun hs ha => ?_, fun hs hrun ha => ?_,
      fun hrun hs h8 ha => ?_, fun hs ha hgood => Channel.sample_fault_accepted hs (haccepts.mpr ha) hgood,
      fun hs ha hgood => Channel.sample_fault_recovers hs (haccepts.mpr ha) hgood, fun hrun hs ha => ?_⟩
    · rw [Channel.sample_acquiring hs, Channel.acquire, if_pos hfirst]
    · rw [Channel.sample_acquiring hs, Channel.acquire, if_neg hsecond]
    · rw [Channel.sample_tracking_rejected hs (hrejects ha), Channel.takeRejected_eq hrun]
      rfl
    · rw [Channel.sample_holding_rejected hs (hrejects ha) hrun, Channel.takeRejected_eq (by omega)]
      rfl
    · rw [Channel.sample_holding_faults hs (hrejects ha) h8, Channel.takeRejected_eq hrun]
      rfl
    · rw [Channel.sample_fault_rejected hs (hrejects ha), Channel.takeRejected_eq hrun]
      rfl
  · exact Channel.sampleAll_rejected hs h0 xs hpos hlen hout
  · exact Channel.sampleAll_accepted hs h0 xs hlen hin

end Sys2Proof.Machine
end

section
/-! PROOFS. The angles of a FIRE: their formulas and their ranges (O12). -/

namespace Sys2Proof.Machine

/-! ### The raw angle and its correction (R27, R28) -/

/-- R27: the count from the reference, scaled to 24 bits, is a 24-bit angle. -/
theorem Channel.rawAngle_lt (c : Channel) {bits : Nat} (h : bits ≤ 24) : c.rawAngle bits < 2 ^ 24 := by
  have hpos : (0 : Int) < 2 ^ bits := by positivity
  have hcount : (((c.used : Int) - (c.ref : Int)) % (2 ^ bits : Int)).toNat < 2 ^ bits := by
    zify
    rw [Int.toNat_of_nonneg (Int.emod_nonneg _ hpos.ne')]
    exact Int.emod_lt_of_pos _ hpos
  calc c.rawAngle bits < 2 ^ bits * 2 ^ (24 - bits) := Nat.mul_lt_mul_of_pos_right hcount (by positivity)
    _ = 2 ^ 24 := by rw [← Nat.pow_add, Nat.add_sub_cancel' h]

/-- R28: the part `f` of 65536 of a difference `d`, rounded half up, lies between 0 and `d`. -/
theorem interpolation_mem {d f : Int} (h0 : 0 ≤ f) (hf : f < 65536) :
    min 0 d ≤ (d * f + 32768) / 65536 ∧ (d * f + 32768) / 65536 ≤ max 0 d := by
  rcases le_total 0 d with hd | hd
  · have hlo : 0 ≤ d * f := mul_nonneg hd h0
    have hhi : d * f ≤ d * 65536 := mul_le_mul_of_nonneg_left hf.le hd
    omega
  · have hlo : d * 65536 ≤ d * f := mul_le_mul_of_nonpos_left hf.le hd
    have hhi : d * f ≤ 0 := mul_nonpos_of_nonpos_of_nonneg hd h0
    omega

/-- R28: a correction lies between the entries on both sides of the angle. -/
theorem correction_mem (table : List Int) (r : Nat) :
    min (table.getD (r / 65536) 0) (table.getD ((r / 65536 + 1) % 256) 0) ≤ correction table r ∧
      correction table r ≤ max (table.getD (r / 65536) 0) (table.getD ((r / 65536 + 1) % 256) 0) := by
  have hmem := interpolation_mem (f := ((r % 65536 : Nat) : Int))
    (d := table.getD ((r / 65536 + 1) % 256) 0 - table.getD (r / 65536) 0) (by omega) (by omega)
  simp only [correction]
  omega

/-- R28: on an entry's own angle the correction is that entry. -/
theorem correction_of_aligned (table : List Int) {r : Nat} (h : r % 65536 = 0) :
    correction table r = table.getD (r / 65536) 0 := by
  simp [correction, h]

/-! ### Facet, elevation and azimuth (R29 to R31) -/

theorem clampInt_mem {lo hi : Int} (h : lo ≤ hi) (v : Int) : lo ≤ clampInt lo hi v ∧ clampInt lo hi v ≤ hi := by
  unfold clampInt
  omega

/-- R30: a formed elevation is a signed 24-bit value. -/
theorem mirrorAngles_elevation_mem {b : Bank} {p : Params} {c : Channel} {m : MirrorAngles}
    (h : mirrorAngles b p c = some m) : -(2 ^ 23) ≤ m.elevation ∧ m.elevation ≤ 2 ^ 23 - 1 := by
  unfold mirrorAngles at h
  split at h
  · cases h
  · cases h
    exact clampInt_mem (by norm_num) _

/-- R31: AzSign −1 turns an angle into what is left of the turn. -/
theorem azimuthOf_minus {angle : Nat} (h : angle ≤ 2 ^ 24) : azimuthOf .minus angle = BitVec.ofNat 24 (2 ^ 24 - angle) := by
  simp only [azimuthOf]
  refine BitVec.eq_of_toNat_eq ?_
  rw [BitVec.toNat_neg, BitVec.toNat_ofNat, BitVec.toNat_ofNat]
  omega

/-- R27: a channel that is UNLOCKED forms no angle. -/
theorem angles_of_unlocked (b : Bank) (p : Params) {c : Channel} (h : c.state = .unlocked) :
    mirrorAngles b p c = none ∧ azimuthAngle b p c = none :=
  ⟨if_pos h, if_pos h⟩

/-- Settles O12: each formula is the model's own; the ranges are those of the lemmas above. -/
theorem anglesStayInRange : Obligations.AnglesStayInRange := by
  refine ⟨fun bits v h => ?_, fun c bits h => ⟨rfl, c.rawAngle_lt h⟩,
    fun table r => ⟨rfl, correctedAngle_lt table r⟩, fun table r _ => ?_, fun b p c => ?_, fun b p c m hp h => ?_,
    fun a => ?_⟩
  · obtain ⟨hlo, hhi⟩ := signedMod_range bits h v
    exact ⟨hlo, hhi, by exact_mod_cast Int.dvd_self_sub_bmod (x := v) (m := 2 ^ bits)⟩
  · obtain ⟨hlo, hhi⟩ := correction_mem table r
    exact ⟨rfl, hlo, hhi, correction_of_aligned table⟩
  · refine ⟨angles_of_unlocked b p, fun h => ⟨if_neg h, (if_neg h).trans (congrArg some ?_)⟩⟩
    cases p.azSign with
    | plus => rfl
    | minus => exact azimuthOf_minus (correctedAngle_lt _ _).le
  · exact ⟨mirrorAngles_facet_lt hp h, mirrorAngles_elevation_mem h⟩
  · exact BitVec.add_right_neg _

end Sys2Proof.Machine
end

section
/-! PROOFS. The pulse of a FIRE in RUNNING: discarded, refused or appended (O14). -/

namespace Sys2Proof.Machine

/-! ### The conditions of R45 -/

theorem Channel.usable_iff (c : Channel) : c.usable = true ↔ c.state = .tracking ∨ c.state = .holding := by
  simp [Channel.usable]

/-- 00_scope: strictly later is a lead of 1 up to below half the turn. -/
theorem strictlyAfter_iff (t u : Timestamp) :
    strictlyAfter t u = true ↔ 1 ≤ (t - u).toNat ∧ (t - u).toNat < 2 ^ 39 := by
  rw [strictlyAfter, decide_eq_true_iff, ne_eq, ← lead_eq_zero_iff, ← ne_eq, ← Nat.one_le_iff_ne_zero]

/-- R45: a fire time passes an empty queue, and otherwise when it is strictly later than the tail's. -/
theorem Emq.laterThanTail_iff (q : Emq) (t : Timestamp) :
    q.laterThanTail t = true ↔ ∀ p ∈ q.queue.getLast?, strictlyAfter t p.tFire = true := by
  unfold Emq.laterThanTail
  cases q.queue.getLast? <;> simp

/-- R45: a hand-off without angles or without azimuth is discarded. -/
theorem State.judgePulse_of_none (s : State) (t : Timestamp) {h : Handoff} (hn : h.mirror = none ∨ h.azimuth = none) :
    s.judgePulse t h = s := by
  unfold State.judgePulse
  rcases hn with hn | hn
  · rw [hn]
  · rw [hn]
    cases h.mirror <;> rfl

/-- R45: the three ways of a hand-off with angles and azimuth. -/
theorem State.judgePulse_spec (s : State) (t : Timestamp) (m : MirrorAngles) (azimuth : Azimuth) (boundary : Bool) :
    let h : Handoff := { mirror := some m, azimuth := some azimuth, boundary := boundary }
    let usable := s.ant.mirror.usable && s.ant.azimuth.usable && m.enable
    (usable = false → s.judgePulse t h = s) ∧
      (usable = true → s.emq.laterThanTail t = false → s.judgePulse t h = s.rejectFrame) ∧
      (usable = true → s.emq.laterThanTail t = true → s.judgePulse t h = s.acceptPulse t m azimuth) := by
  simp only [State.judgePulse]
  refine ⟨fun h => ?_, fun h hl => ?_, fun h hl => ?_⟩
  · rw [h]
    rfl
  · rw [h, hl]
    rfl
  · rw [h, hl]
    rfl

/-! ### The acceptance (R46, R47) -/

/-- R49: a close leaves the count of accepted pulses. -/
theorem State.closeHead_accepted (s : State) (evicted : Bool) :
    (s.closeHead evicted).emq.accepted = s.emq.accepted := by
  cases h : s.emq.queue with
  | nil => rw [s.closeHead_of_empty h]
  | cons p rest =>
    obtain ⟨_, haccepted, _⟩ := s.closeHead_emq h evicted
    exact haccepted

/-- R46: making room leaves the count of accepted pulses. -/
theorem State.makeRoom_accepted (s : State) : s.makeRoom.emq.accepted = s.emq.accepted := by
  unfold State.makeRoom
  split
  · obtain ⟨first, hevict⟩ := s.evictHead_eq
    rw [hevict, State.onEmq_emq, State.raise_emq, State.closeHead_accepted]
    cases first <;> rfl
  · rfl

/-- R128: the Exposure Unit's work on a pulse leaves the generation. -/
theorem State.exposureWork_generation (s : State) (v : PulseView) :
    (s.exposureWork v).1.tbs.generation = s.tbs.generation := by
  have h := s.exposureWork_tables v
  unfold SameTables at h
  rw [h]

/-- R38, R47: the record of a new pulse reads the queue, the tracker and the generation alone. -/
theorem State.newPulse_congr {s u : State} (hemq : u.emq.accepted = s.emq.accepted) (hant : u.ant = s.ant)
    (t : Timestamp) (m : MirrorAngles) (azimuth : Azimuth) (colour : Option Colour) :
    u.newPulse t m azimuth colour = { s.newPulse t m azimuth colour with gen := u.tbs.generation } := by
  simp only [State.newPulse, hemq, hant]

/-- R46, R47, R38: an accepted pulse, written out from the state before it and the state with room. -/
theorem State.acceptPulse_eq (s : State) (t : Timestamp) (m : MirrorAngles) (azimuth : Azimuth) :
    let w := s.makeRoom.exposureWork { tFire := t, azimuth := azimuth, elevation := m.elevation }
    let pulse : Pulse := { s.newPulse t m azimuth w.2 with gen := s.makeRoom.tbs.generation }
    s.acceptPulse t m azimuth =
      { w.1 with
        emq :=
          { s.makeRoom.emq with queue := s.makeRoom.emq.queue ++ [pulse], accepted := s.emq.accepted + 1 } } := by
  intro w pulse
  have hemq : w.1.emq = s.makeRoom.emq := by simp [w]
  have hant : w.1.ant = s.ant := by simp [w]
  have haccepted : w.1.emq.accepted = s.emq.accepted := by rw [hemq, s.makeRoom_accepted]
  have hpulse : w.1.newPulse t m azimuth w.2 = pulse := by
    rw [State.newPulse_congr haccepted hant, State.exposureWork_generation]
  calc s.acceptPulse t m azimuth
      = w.1.onEmq fun q =>
          { q with queue := q.queue ++ [w.1.newPulse t m azimuth w.2], accepted := q.accepted + 1 } := rfl
    _ = _ := by rw [hpulse, State.onEmq, haccepted, hemq]

/-- Settles O14: the three ways of R45, the acceptance written out. -/
theorem pulseIsAcceptedAtTheTail : Obligations.PulseIsAcceptedAtTheTail := by
  refine ⟨fun s t h => s.judgePulse_of_none t, Channel.usable_iff, fun q t => ?_, fun s t m azimuth boundary => ?_⟩
  · simp only [q.laterThanTail_iff, strictlyAfter_iff]
  · obtain ⟨hdiscard, hreject, haccept⟩ := s.judgePulse_spec t m azimuth boundary
    exact ⟨hdiscard, hreject, fun hu hl => (haccept hu hl).trans (s.acceptPulse_eq t m azimuth)⟩

end Sys2Proof.Machine
end

section
/-! PROOFS. The parameters by id and the writes of them (O50). -/

namespace Sys2Proof.Machine

/-! ### The codes of the enumerated values (R191, R203) -/

theorem flagOf_eq_some_iff (w : Nat) (on : Bool) : flagOf w = some on ↔ w = if on = true then 1 else 0 := by
  unfold flagOf
  split <;> cases on <;> simp_all

theorem signOf_eq_some_iff (w : Nat) (sign : Sign) : signOf w = some sign ↔ w = if sign = .plus then 0 else 1 := by
  unfold signOf
  split <;> cases sign <;> simp_all

theorem polarityOf_eq_some_iff (w : Nat) (x : Polarity) : polarityOf w = some x ↔ w = if x = .high then 0 else 1 := by
  unfold polarityOf
  split <;> cases x <;> simp_all

/-- A code that gives each of two values its own number takes 0 and 1 alone. -/
theorem isSome_of_two_codes {α : Type} {o : Option α} {w : Nat} {code : α → Nat} (hcode : ∀ x, o = some x ↔ w = code x)
    (hbit : ∀ x, code x = 0 ∨ code x = 1) (a b : α) (ha : code a = 0) (hb : code b = 1) :
    o.isSome = true ↔ w ∈ [0, 1] := by
  simp only [Option.isSome_iff_exists, hcode, List.mem_cons, List.not_mem_nil, or_false]
  constructor
  · rintro ⟨x, rfl⟩
    exact hbit x
  · rintro (rfl | rfl)
    · exact ⟨a, ha.symm⟩
    · exact ⟨b, hb.symm⟩

theorem selectOf_eq_some_iff (w id : Nat) : selectOf w = some id ↔ (w ≤ 23 ∨ w = 31) ∧ w = id := by
  simp [selectOf]

/-- R181: a mask that is taken holds the word's bits. -/
theorem eventSetOf_eq_some_iff (w : Nat) (m : EventSet) : eventSetOf w = some m ↔ w = m.toNat := by
  unfold eventSetOf
  rw [Option.ite_none_right_eq_some, Option.some.injEq]
  constructor
  · rintro ⟨hw, rfl⟩
    exact (Nat.mod_eq_of_lt hw).symm
  · rintro rfl
    exact ⟨m.isLt, by simp⟩

/-! ### The values held, as a list -/

/-- Section 10.6: the values of the parameters in the order of their ids. -/
def Params.heldValues (p : Params) : List Nat :=
  [p.mirrorBits, p.azBits, p.mirrorVarLimit, p.azVarLimit, p.mirrorIndexMargin, p.azIndexMargin, p.facets, p.deflection,
    if p.azSign = .plus then 0 else 1, if p.camEnable = true then 1 else 0, p.camLead, p.timeSlack, p.batchFlush] ++
  p.statusSelect ++
  [p.alertMaskA.toNat, p.alertMaskB.toNat, if p.alertPolA = .high then 0 else 1, if p.alertPolB = .high then 0 else 1,
    p.keepMask.toNat]

theorem Params.heldValues_length {p : Params} (h8 : p.statusSelect.length = 8) : p.heldValues.length = 26 := by
  simp [Params.heldValues, h8]

theorem exists_eight_of_length {α : Type} {l : List α} (h : l.length = 8) :
    ∃ x0 x1 x2 x3 x4 x5 x6 x7, l = [x0, x1, x2, x3, x4, x5, x6, x7] := by
  match l, h with
  | [x0, x1, x2, x3, x4, x5, x6, x7], _ => exact ⟨x0, x1, x2, x3, x4, x5, x6, x7, rfl⟩

theorem Sign.code_eq (x : Sign) : x.code = if x = .plus then 0 else 1 := by cases x <;> rfl

theorem Polarity.code_eq (x : Polarity) : x.code = if x = .high then 0 else 1 := by cases x <;> rfl

/-- R192: the value of an id is its place in the list. -/
theorem Params.value_eq_heldValues {p : Params} (h8 : p.statusSelect.length = 8) (id : Nat) :
    p.value id = p.heldValues[id]? := by
  obtain ⟨x0, x1, x2, x3, x4, x5, x6, x7, hs⟩ := exists_eight_of_length h8
  rcases Nat.lt_or_ge id 26 with hlt | hge
  · interval_cases id <;>
      simp [Params.value, Params.heldValues, hs, Sign.code_eq, Polarity.code_eq, Bool.toNat, Bool.cond_eq_ite]
  · rw [List.getElem?_eq_none (by rw [p.heldValues_length h8]; exact hge)]
    obtain ⟨n, rfl⟩ := Nat.exists_eq_add_of_le' hge
    rfl

/-! ### Writes (R191, R181, R203) -/

/-- Section 10.6: the ids whose words are clamped to a range. -/
def clampedIds : List Nat := [0, 1, 2, 3, 4, 5, 10, 11, 12]

theorem Params.write_of_no_id (p : Params) {id : Nat} (h : 26 ≤ id) (w : Nat) : p.write id w = none := by
  obtain ⟨n, rfl⟩ := Nat.exists_eq_add_of_le' h
  rfl

/-- The ids of StatusSelect0..7. -/
theorem Params.write_select (p : Params) {id : Nat} (hlo : 13 ≤ id) (hhi : id ≤ 20) (w : Nat) :
    p.write id w = p.setSelect (id - 13) w := by
  interval_cases id <;> rfl

/-- What a write leaves: the eight StatusSelect entries, and one value set in the list of those held; it is the word written
unless that is clamped. -/
structure Params.Sets (p : Params) (id w : Nat) (q : Params) : Prop where
  length : q.statusSelect.length = 8
  values : ∃ v, q.heldValues = p.heldValues.set id v ∧ (id ∉ clampedIds → v = w)

theorem Params.setSelect_sets {p q : Params} (h8 : p.statusSelect.length = 8) {n w : Nat} (hn : n < 8)
    (h : p.setSelect n w = some q) : p.Sets (13 + n) w q := by
  obtain ⟨id, hid, rfl⟩ := Option.map_eq_some_iff.mp h
  obtain ⟨_, rfl⟩ := (selectOf_eq_some_iff w id).mp hid
  obtain ⟨x0, x1, x2, x3, x4, x5, x6, x7, hs⟩ := exists_eight_of_length h8
  refine ⟨by simpa using h8, w, ?_, fun _ => rfl⟩
  simp only [Params.heldValues, hs]
  interval_cases n <;> rfl

/-- R191: a write that is taken sets the value of its id and no other. -/
theorem Params.write_sets {p q : Params} (h8 : p.statusSelect.length = 8) {id w : Nat} (h : p.write id w = some q) :
    p.Sets id w q := by
  have hselect : ∀ n < 8, p.setSelect n w = some q → p.Sets (13 + n) w q := fun n hn => setSelect_sets h8 hn
  obtain ⟨x0, x1, x2, x3, x4, x5, x6, x7, hs⟩ := exists_eight_of_length h8
  unfold Params.write at h
  split at h
  case h_1 | h_2 | h_3 | h_4 | h_5 | h_6 | h_11 | h_12 | h_13 =>
    cases h
    exact ⟨h8, _, rfl, fun hid => absurd hid (by decide)⟩
  case h_7 | h_8 =>
    obtain ⟨_, hq⟩ := Option.ite_none_right_eq_some.mp h
    cases hq
    exact ⟨h8, _, rfl, fun _ => rfl⟩
  case h_14 => exact hselect 0 (by decide) h
  case h_15 => exact hselect 1 (by decide) h
  case h_16 => exact hselect 2 (by decide) h
  case h_17 => exact hselect 3 (by decide) h
  case h_18 => exact hselect 4 (by decide) h
  case h_19 => exact hselect 5 (by decide) h
  case h_20 => exact hselect 6 (by decide) h
  case h_21 => exact hselect 7 (by decide) h
  case h_27 => cases h
  all_goals
    obtain ⟨x, hx, rfl⟩ := Option.map_eq_some_iff.mp h
    refine ⟨h8, w, ?_, fun _ => rfl⟩
  case h_9 => rw [(signOf_eq_some_iff w x).mp hx]; rfl
  case h_10 => rw [(flagOf_eq_some_iff w x).mp hx]; rfl
  case h_22 | h_23 | h_26 => rw [(eventSetOf_eq_some_iff w x).mp hx]; simp only [Params.heldValues, hs]; rfl
  case h_24 | h_25 => rw [(polarityOf_eq_some_iff w x).mp hx]; simp only [Params.heldValues, hs]; rfl

/-- R191: the value of every id after a write that is taken. -/
theorem Params.value_write {p q : Params} (h8 : p.statusSelect.length = 8) {id w : Nat} (h : p.write id w = some q) :
    (∀ j : Nat, j ≠ id → q.value j = p.value j) ∧ (id ∉ clampedIds → q.value id = some w) := by
  obtain ⟨hlen, v, hset, hword⟩ := Params.write_sets h8 h
  have hid : id < 26 := by
    by_contra hge
    rw [p.write_of_no_id (by omega) w] at h
    cases h
  refine ⟨fun j hj => ?_, fun hc => ?_⟩
  · rw [Params.value_eq_heldValues hlen, Params.value_eq_heldValues h8, hset, List.getElem?_set_ne hj.symm]
  · rw [Params.value_eq_heldValues hlen, hset, ← hword hc,
      List.getElem?_set_self (by rw [Params.heldValues_length h8]; exact hid)]

/-- Settles O50: the list of the values held, and what a write of each kind of parameter takes and sets. -/
theorem parameterWritesClampAndHold : Obligations.ParameterWritesClampAndHold := by
  intro p h8 held ranges lists
  refine ⟨Params.value_eq_heldValues h8, fun word => ⟨?_, ?_, fun id hlo hhi => ?_, ?_, fun id hid => p.write_of_no_id hid word,
    fun id q h => ?_⟩⟩
  · simp only [ranges, List.forall_mem_cons]
    exact ⟨⟨_, rfl, rfl⟩, ⟨_, rfl, rfl⟩, ⟨_, rfl, rfl⟩, ⟨_, rfl, rfl⟩, ⟨_, rfl, rfl⟩, ⟨_, rfl, rfl⟩, ⟨_, rfl, rfl⟩,
      ⟨_, rfl, rfl⟩, ⟨_, rfl, rfl⟩, by simp⟩
  · have hsign := isSome_of_two_codes (signOf_eq_some_iff word) (fun _ => ite_eq_or_eq ..) .plus .minus rfl rfl
    have hflag := isSome_of_two_codes (flagOf_eq_some_iff word) (fun _ => (ite_eq_or_eq ..).symm) false true rfl rfl
    have hpol := isSome_of_two_codes (polarityOf_eq_some_iff word) (fun _ => ite_eq_or_eq ..) .high .low rfl rfl
    simp only [lists, List.forall_mem_cons, Params.write, Option.isSome_map, hsign, hflag, hpol]
    simp [and_comm]
  · rw [p.write_select hlo hhi, Params.setSelect, Option.isSome_map, selectOf]
    simp
  · simp [Params.write, eventSetOf]
  · obtain ⟨hlen, _⟩ := Params.write_sets h8 h
    obtain ⟨hother, hown⟩ := Params.value_write h8 h
    exact ⟨hlen, hother, hown⟩

end Sys2Proof.Machine
end

section
/-! PROOFS. The candidates of an echo (O20), the choice among them (O21) and the placement (O22). -/

namespace Sys2Proof.Machine

/-! ### Candidates (R57, R58, R104) -/

/-- R57: the test of a candidate. -/
theorem State.isCandidate_iff (s : State) (te : Timestamp) (p : Pulse) :
    s.isCandidate te p = true ↔
      (te - p.tFire).toNat < 2 ^ 39 ∧ (te - p.tFire).toNat ≤ (s.bankFor p).listenTicks :=
  decide_eq_true_iff

/-- The open pulses that pass the test, with their places in the queue, the youngest first. -/
def State.openCandidates (s : State) (te : Timestamp) : List (Pulse × Nat) :=
  (s.emq.queue.zipIdx.filter fun x => s.isCandidate te x.1).reverse

theorem State.mem_openCandidates {s : State} {te : Timestamp} {p : Pulse} {i : Nat} :
    (p, i) ∈ s.openCandidates te ↔ s.emq.queue[i]? = some p ∧ s.isCandidate te p = true := by
  rw [State.openCandidates, List.mem_reverse, List.mem_filter, List.mem_zipIdx_iff_getElem?]

/-- R58: the places fall along the list. -/
theorem State.openCandidates_pairwise (s : State) (te : Timestamp) :
    (s.openCandidates te).Pairwise fun x y => y.2 < x.2 := by
  rw [State.openCandidates, List.pairwise_reverse]
  refine List.Pairwise.filter _ ?_
  rw [← List.pairwise_map (f := Prod.snd) (R := (· < ·)), List.zipIdx_map_snd]
  exact List.pairwise_lt_range'

/-- R58: the candidates number the passing pulses from zone 0. -/
theorem State.candidates_eq (s : State) (te : Timestamp) :
    s.candidates te =
      (s.openCandidates te).zipIdx.map fun x => { place := x.1.2, pulse := x.1.1, zone := x.2 } := rfl

theorem State.candidates_zones (s : State) (te : Timestamp) :
    (s.candidates te).map Candidate.zone = List.range (s.candidates te).length := by
  rw [s.candidates_eq, List.map_map, List.length_map, List.length_zipIdx, List.range_eq_range',
    ← List.zipIdx_map_snd 0 (s.openCandidates te)]
  rfl

theorem State.candidates_places (s : State) (te : Timestamp) :
    (s.candidates te).map (fun c => (c.pulse, c.place)) = s.openCandidates te := by
  rw [s.candidates_eq, List.map_map]
  exact List.zipIdx_map_fst 0 (s.openCandidates te)

/-- Settles O20: the passing pulses keep their order through the numbering, which gives zones and places. -/
theorem candidatesAreNumberedFromTheYoungest : Obligations.CandidatesAreNumberedFromTheYoungest := by
  refine ⟨fun s p => ⟨rfl, rfl⟩, fun s te => ?_⟩
  have hplaces := s.candidates_places te
  refine ⟨s.candidates_zones te, ?_, fun c hc => ?_, fun i p hi hage hlisten => ?_⟩
  · have h := s.openCandidates_pairwise te
    rw [← hplaces, List.pairwise_map] at h
    exact h
  · obtain ⟨hplace, htest⟩ := s.candidates_mem hc
    exact ⟨hplace, (s.isCandidate_iff te c.pulse).mp htest⟩
  · have h := State.mem_openCandidates.mpr ⟨hi, (s.isCandidate_iff te p).mpr ⟨hage, hlisten⟩⟩
    rw [← hplaces, List.mem_map] at h
    obtain ⟨c, hc, he⟩ := h
    obtain ⟨hpulse, hplace⟩ := Prod.mk.inj he
    exact ⟨c, hc, hplace, hpulse⟩

/-! ### Acceptable candidates (R59 to R63, R80) -/

/-- R60: a candidate is acceptable with a range exactly when it passes the tests with it. -/
theorem State.acceptable?_eq_some_iff (s : State) (te : Timestamp) (amplitude : Nat) (c : Candidate) (a : Acceptable) :
    s.acceptable? te amplitude c = some a ↔
      ∃ r : Int, rangeOf (s.bankFor c.pulse) te c.pulse.tFire amplitude = some r ∧
        inGlobalWindow (s.bankFor c.pulse) r = true ∧
        inSectorWindow (sectorEntry (s.bankFor c.pulse) c.pulse) r = true ∧
        c.zone ≤ (sectorEntry (s.bankFor c.pulse) c.pulse).maxZone ∧ a = { cand := c, range := r } := by
  constructor
  · intro h
    obtain ⟨hcand, hrange, hglobal, hsector, hzone⟩ := s.acceptable?_some h
    exact ⟨a.range, hrange, hglobal, hsector, hzone, by rw [← hcand]⟩
  · rintro ⟨r, hrange, hglobal, hsector, hzone, rfl⟩
    simp [State.acceptable?, hrange, hglobal, hsector, hzone]

/-- R61, R62: an echo with two or more acceptable candidates is counted, and goes to the one chosen or is dropped. -/
theorem State.decideEcho_of_ambiguous {s : State} {te : Timestamp} {amplitude : BitVec 12} {a b : Acceptable}
    {rest : List Acceptable} (h : s.acceptables te amplitude.toNat = a :: b :: rest) (width : BitVec 10) :
    let counted := s.onEca fun e => { e with ambiguous := e.ambiguous + 1 }
    (∀ chosen, counted.resolve a (b :: rest) = some chosen →
        s.decideEcho te amplitude width = counted.assignEcho chosen amplitude width) ∧
      (counted.resolve a (b :: rest) = none → s.decideEcho te amplitude width = counted.raise .echoAmbiguous) := by
  dsimp only
  refine ⟨fun chosen hc => ?_, fun hc => ?_⟩
  · simp only [State.decideEcho, h, hc]
  · simp only [State.decideEcho, h, hc]

/-- R62: what each policy takes among two or more. -/
theorem State.resolve_spec (s : State) (a b : Acceptable) (rest : List Acceptable) :
    let policy := (sectorEntry (s.bankFor a.cand.pulse) a.cand.pulse).policy
    (policy = .nearest → s.resolve a (b :: rest) = some a) ∧
      (policy = .farthest → s.resolve a (b :: rest) = some ((b :: rest).getLast (by simp))) ∧
      (policy = .track → s.resolve a (b :: rest) = some (((a :: b :: rest).find? s.tracked).getD a)) ∧
      (policy = .discard → s.resolve a (b :: rest) = none) := by
  dsimp only
  refine ⟨fun h => ?_, fun h => ?_, fun h => ?_, fun h => ?_⟩
  · simp only [State.resolve, h]
  · simp [State.resolve, h, List.getLast?_eq_some_getLast]
  · simp only [State.resolve, h]
  · simp only [State.resolve, h]

/-- Settles O21: the tests of R60 both ways, the four outcomes by number and policy, and the Zone Track before placement. -/
theorem acceptableCandidatesDecideTheEcho : Obligations.AcceptableCandidatesDecideTheEcho := by
  refine ⟨fun s te amplitude => ⟨rfl, fun c a => ?_⟩, fun s te amplitude width => ⟨fun h => ?_, fun a h => ?_,
    fun a b rest h => ?_, fun a => ⟨rfl, fun hnone => ?_⟩⟩⟩
  · refine (s.acceptable?_eq_some_iff te amplitude c a).trans ?_
    simp only [inGlobalWindow, inSectorWindow, decide_eq_true_eq, and_assoc]
    rfl
  · unfold State.decideEcho
    rw [h]
    rfl
  · unfold State.decideEcho
    rw [h]
  · obtain ⟨hchosen, hdropped⟩ := State.decideEcho_of_ambiguous h width
    obtain ⟨hnearest, hfarthest, htrack, hdiscard⟩ :=
      (s.onEca fun e => { e with ambiguous := e.ambiguous + 1 }).resolve_spec a b rest
    exact ⟨fun hp => hchosen _ (hnearest hp), fun hp => hchosen _ (hfarthest hp), fun hp => hchosen _ (htrack hp),
      fun hp => hdropped (hdiscard hp)⟩
  · simp only [State.assignEcho]
    rw [State.pipelineRequest_of_idle _ (State.commandWaits_of_none _ (by simpa using hnone))]
    rfl

/-! ### Placement (R64 to R66) -/

/-- R65: the place of a new echo: behind every entry of at most its range. -/
theorem insertEcho_eq (x : EchoEntry) (l : List EchoEntry) :
    insertEcho x l = l.takeWhile (fun y => y.range ≤ x.range) ++ x :: l.dropWhile (fun y => y.range ≤ x.range) := by
  induction l with
  | nil => rfl
  | cons y rest ih =>
    unfold insertEcho
    by_cases h : y.range ≤ x.range
    · simp [h, ih]
    · simp [h]

/-- R65: an insertion keeps the order. -/
theorem insertEcho_pairwise {x : EchoEntry} {l : List EchoEntry} (h : l.Pairwise fun a b => a.range ≤ b.range) :
    (insertEcho x l).Pairwise fun a b => a.range ≤ b.range := by
  induction l with
  | nil => simp [insertEcho]
  | cons y rest ih =>
    obtain ⟨hy, hrest⟩ := List.pairwise_cons.mp h
    unfold insertEcho
    split
    · rename_i hle
      refine List.pairwise_cons.mpr ⟨fun z hz => ?_, ih hrest⟩
      rcases (mem_insertEcho x z rest).mp hz with rfl | hz
      · exact hle
      · exact hy z hz
    · rename_i hlt
      refine List.pairwise_cons.mpr ⟨fun z hz => ?_, h⟩
      rcases List.mem_cons.mp hz with rfl | hz
      · omega
      · have := hy z hz
        omega

/-- R66: with no pool entry free the echo is lost. -/
theorem Pulse.place_of_no_entry (p : Pulse) {free : Nat} (maxEchoes : Nat) (x : EchoEntry) (h : free = 0) :
    p.place free maxEchoes x = ({ p with echoOverflow := true }, false, true) := if_pos h

/-- R65: a list below MaxEchoes grows. -/
theorem Pulse.place_of_room (p : Pulse) {free maxEchoes : Nat} (h : 0 < free) (hlt : p.echoes.length < maxEchoes)
    (x : EchoEntry) : p.place free maxEchoes x = ({ p with echoes := insertEcho x p.echoes }, true, false) :=
  (if_neg (by omega)).trans (if_neg (by rw [insertEcho_length]; omega))

/-- R66: a list at MaxEchoes loses its last entry. -/
theorem Pulse.place_of_full (p : Pulse) {free maxEchoes : Nat} (h : 0 < free) (hge : maxEchoes ≤ p.echoes.length)
    (x : EchoEntry) :
    p.place free maxEchoes x =
      ({ p with echoes := (insertEcho x p.echoes).dropLast, echoOverflow := true }, false, true) :=
  (if_neg (by omega)).trans (if_pos (by rw [insertEcho_length]; omega))

/-- R65, R66: placement keeps the order of the list. -/
theorem Pulse.place_pairwise {p : Pulse} (h : p.echoes.Pairwise fun a b => a.range ≤ b.range) (free maxEchoes : Nat)
    (x : EchoEntry) : (p.place free maxEchoes x).1.echoes.Pairwise fun a b => a.range ≤ b.range := by
  rcases p.place_cases free maxEchoes x with ⟨_, e⟩ | ⟨_, _, e⟩ | ⟨_, _, e⟩ <;> rw [e]
  · exact h
  · exact insertEcho_pairwise h
  · exact (insertEcho_pairwise h).sublist (List.dropLast_sublist _)

/-- R65, R66: placement keeps the list within MaxEchoes. -/
theorem Pulse.place_length_le {p : Pulse} {maxEchoes : Nat} (h : p.echoes.length ≤ maxEchoes) (free : Nat)
    (x : EchoEntry) : (p.place free maxEchoes x).1.echoes.length ≤ maxEchoes := by
  rcases p.place_cases free maxEchoes x with ⟨_, e⟩ | ⟨_, hlt, e⟩ | ⟨_, _, e⟩ <;> rw [e]
  · exact h
  · simpa using hlt
  · simpa using h

/-- R66: in a list in order the last entry has the greatest range. -/
theorem range_le_of_mem_getLast? {l : List EchoEntry} (h : l.Pairwise fun a b => a.range ≤ b.range) {z : EchoEntry}
    (hz : z ∈ l.getLast?) : ∀ y ∈ l, y.range ≤ z.range := by
  obtain ⟨front, rfl⟩ := List.getLast?_eq_some_iff.mp hz
  obtain ⟨_, _, hfront⟩ := List.pairwise_append.mp h
  intro y hy
  rcases List.mem_append.mp hy with hy | hy
  · exact hfront y hy z (List.mem_singleton_self z)
  · obtain rfl := List.mem_singleton.mp hy
    exact le_rfl

/-- R65, R66: the state after a placement, written out. -/
theorem State.placeEcho_eq (s : State) (a : Acceptable) (amplitude : BitVec 12) (width : BitVec 10) :
    let x : EchoEntry := { amplitude := amplitude, width := width, range := a.range.toNat, zone := a.cand.zone }
    let placed := a.cand.pulse.place s.eca.free (s.bankFor a.cand.pulse).policy.maxEchoes x
    s.placeEcho a amplitude width =
      { s with
        emq := { s.emq with queue := s.emq.queue.set a.cand.place placed.1 }
        eca := { s.eca with free := if placed.2.1 then s.eca.free - 1 else s.eca.free }
        flags := if placed.2.2 then s.flags ||| Event.echoOverflow.bit else s.flags } := by
  dsimp only [State.placeEcho]
  generalize a.cand.pulse.place _ _ _ = placed
  obtain ⟨p', takes, overflow⟩ := placed
  cases takes <;> cases overflow <;> rfl

/-- Settles O22: order and limit by the three outcomes of a placement, and the state written out. -/
theorem placementKeepsTheNearestEchoes : Obligations.PlacementKeepsTheNearestEchoes := by
  refine ⟨fun p free maxEchoes x hsorted hlength => ?_, State.placeEcho_eq⟩
  rw [← insertEcho_eq]
  refine ⟨Pulse.place_pairwise hsorted _ _ _, Pulse.place_length_le hlength _ _, p.place_of_no_entry maxEchoes x,
    fun h hlt => p.place_of_room h hlt x, fun h heq => ⟨p.place_of_full h heq.ge x,
      fun z hz => range_le_of_mem_getLast? (insertEcho_pairwise hsorted) hz⟩⟩

end Sys2Proof.Machine
end

section
/-! PROOFS. The close of a pulse and the passage of its records (O16), and the run state (O18, O19). -/

namespace Sys2Proof.Machine

/-! ### The close of a pulse (R49, R83, R99, R100, R170) -/

/-- R49: the close of the head, as the drain test of the state with the pulse formed and counted. -/
theorem State.closeHead_of_cons {s : State} {p : Pulse} {rest : List Pulse} (h : s.emq.queue = p :: rest)
    (evicted : Bool) :
    let formed := State.formPoints { s with emq := { s.emq with queue := rest } } p evicted
    s.closeHead evicted =
      State.drainTest
        { formed with
          eca := { formed.eca with free := formed.eca.free + p.echoes.length }
          emq := { formed.emq with closed := formed.emq.closed + 1, lastClosed := some p.seq } } := by
  unfold State.closeHead
  rw [h]
  rfl

/-- R43: the drain test under its condition and without it. -/
theorem State.drainTest_spec (s : State) :
    (s.emq.run = .draining → s.emq.queue = [] → s.drainTest = s.enterStopped) ∧
      (¬(s.emq.run = .draining ∧ s.emq.queue = []) → s.drainTest = s) :=
  ⟨fun hr hq => if_pos ⟨hr, hq⟩, fun h => if_neg h⟩

/-- R99: the records pass one at a time, in order. -/
theorem passRecords_eq_foldl (rs : List PointRecord) (s : State) : passRecords rs s = rs.foldl State.passRecord s := by
  induction rs generalizing s with
  | nil => rfl
  | cons r rest ih => exact ih (s.passRecord r)

/-- R83, R104: the policy that a closed pulse is formed under is that of its generation, which the sweep test and the port
request leave. -/
theorem State.formPoints_eq (s : State) (p : Pulse) (evicted : Bool) :
    s.formPoints p evicted =
      (pulseRecords (s.bankFor p).policy p evicted).foldl State.passRecord (s.sweepTest p).pipelineRequest := by
  have hbank : (s.sweepTest p).pipelineRequest.bankFor p = s.bankFor p := by
    have htbs : (s.sweepTest p).tbs = s.tbs := by simp
    unfold State.bankFor
    rw [(s.sweepTest p).pipelineRequest_tables.bankOf, htbs]
  unfold State.formPoints
  dsimp only
  rw [passRecords_eq_foldl, hbank]

/-- R170: the place of a record in the batch: the 32nd closes it. -/
theorem State.placeRecord_spec (s : State) (r : PointRecord) :
    let batch := s.rlf.batch ++ [r]
    (batch.length ≠ 32 → s.placeRecord r = { s with rlf := { s.rlf with batch := batch } }) ∧
      (batch.length = 32 → s.placeRecord r = State.offer { s with rlf := { s.rlf with batch := [] } } (.pts batch)) := by
  intro batch
  refine ⟨fun h => if_neg h, fun h => (if_pos h).trans ?_⟩
  obtain ⟨x, xs, hb⟩ := List.exists_cons_of_length_pos (l := batch) (by omega)
  have hclose : (s.onRlf fun f => { f with batch := f.batch ++ [r] }).rlf.batch = x :: xs := hb
  unfold State.closeBatch
  rw [hclose, hb]
  rfl

/-- Settles O16: the close by its drain test, the records by induction along the list, the batch by its 32nd record. -/
theorem closesPassTheirRecords : Obligations.ClosesPassTheirRecords := by
  refine ⟨fun s p rest evicted h => ?_, fun s p evicted => ⟨s.formPoints_eq p evicted, fun hnone => ?_⟩, fun s r => ?_⟩
  · intro formed counted
    rw [State.closeHead_of_cons h]
    exact State.drainTest_spec counted
  · have hidle : (s.sweepTest p).commandWaits = false := State.commandWaits_of_none _ (by simpa using hnone)
    rw [s.formPoints_eq, State.pipelineRequest_of_idle _ hidle]
    rfl
  · exact (s.triggerPass r).1.placeRecord_spec (s.triggerPass r).2

/-! ### START and STOP (R40, R42) -/

/-- R41: without its conditions the start of the stream changes nothing. -/
theorem State.tryStart_of_not_ready {s : State} (h : ¬(s.emq.run = .waiting ∧ s.ready)) : s.tryStart = s := by
  rw [← State.startConditions_iff_ready] at h
  exact if_neg h

/-- R40: START in STOPPED goes through WAITING; in the other run states it is refused. -/
theorem cmdStart_spec (s : State) :
    (s.emq.run = .stopped → cmdStart [] s = ((s.onEmq fun q => { q with run := .waiting }).tryStart).accept []) ∧
      (s.emq.run ≠ .stopped → cmdStart [] s = s.refuse .wrongState) :=
  ⟨fun h => if_pos h, fun h => if_neg h⟩

/-- R42: STOP under each run state. -/
theorem cmdStop_spec (s : State) :
    (s.emq.run = .running → s.emq.queue ≠ [] →
      cmdStop [] s = (s.onEmq fun q => { q with run := .draining }).accept []) ∧
    (s.emq.run = .running → s.emq.queue = [] → cmdStop [] s = s.enterStopped.accept []) ∧
    (s.emq.run = .waiting → cmdStop [] s = s.enterStopped.accept []) ∧
    (s.emq.run = .stopped → cmdStop [] s = s.accept []) ∧
    (s.emq.run = .draining → cmdStop [] s = s.refuse .wrongState) := by
  unfold cmdStop Reply.ofLength
  refine ⟨fun h hq => ?_, fun h hq => ?_, fun h => ?_, fun h => ?_, fun h => ?_⟩
  · simp [h, hq]
  · simp [h, hq]
  · simp [h]
  · simp [h]
  · simp [h]

/-- The answer of a command that is taken at once, from its reply. -/
theorem exec_of_reply {i : Instr} {tag code : Byte} {s : State} (hi : recordOf i = some (commandRecord code tag [], none))
    (hs : s.takes) (hcode : code ≠ tableReadCode) {r : Reply} (hr : replyTo ⟨tag, code, []⟩ s.passed = r) :
    exec i s = .next (r.state.respond tag code r.result r.body) := by
  rw [exec_of_takes s hi hs (Nat.zero_le _)]
  change Host.Outcome.next (s.passed.takeCommand _) = _
  rw [State.takeCommand, if_neg hcode, hr]
  rfl

/-- R40: the row of START that is taken at once. -/
theorem exec_start {s : State} (hs : s.takes) (tag : Byte) {r : Reply} (hr : cmdStart [] s.passed = r) :
    exec (.start tag []) s = .next (r.state.respond tag 0x0D#8 r.result r.body) :=
  exec_of_reply rfl hs (by decide) hr

/-- R42: the row of STOP that is taken at once. -/
theorem exec_stop {s : State} (hs : s.takes) (tag : Byte) {r : Reply} (hr : cmdStop [] s.passed = r) :
    exec (.stop tag []) s = .next (r.state.respond tag 0x0E#8 r.result r.body) :=
  exec_of_reply rfl hs (by decide) hr

/-- Settles O18: the two commands by the run state, START through the test of R41. -/
theorem startAndStop : Obligations.StartAndStop := by
  refine ⟨fun tag s hs => ?_, fun tag s hs => ?_⟩
  · obtain ⟨hstart, hrefuse⟩ := cmdStart_spec s.passed
    refine ⟨fun hr hnot => ?_, fun hr hready => ?_, fun hr => exec_start hs tag (hrefuse hr)⟩
    · have hwait := State.tryStart_of_not_ready (s := s.passed.onEmq fun q => { q with run := .waiting }) fun h => hnot h.2
      rw [exec_start hs tag (hstart hr), hwait]
      rfl
    · have hrun := State.tryStart_of_ready (u := s.passed.onEmq fun q => { q with run := .waiting }) rfl hready
      rw [exec_start hs tag (hstart hr), hrun]
      rfl
  · obtain ⟨hdrain, hend, hwait, hstopped, hdraining⟩ := cmdStop_spec s.passed
    exact ⟨fun hr hq => exec_stop hs tag (hdrain hr hq), fun hr hq => exec_stop hs tag (hend hr hq),
      fun hr => exec_stop hs tag (hwait hr), fun hr => exec_stop hs tag (hstopped hr),
      fun hr => exec_stop hs tag (hdraining hr)⟩

/-! ### Moves of the run state without a command (R41, R43) -/

/-- R105: whether a table is PENDING. -/
theorem Tbs.anyPending_iff (t : Tbs) : t.anyPending = true ↔ ∃ id : TableId, t.stagedStatus.get id = .pending := by
  simp only [Tbs.anyPending, Tbs.isPending, List.any_eq_true, decide_eq_true_eq]
  exact ⟨fun ⟨id, _, h⟩ => ⟨id, h⟩, fun ⟨id, h⟩ => ⟨id, by cases id <;> simp [allTables], h⟩⟩

/-- R164: a filling capture becomes FULL, and any other stays. -/
theorem State.captureAtStop_eq (s : State) :
    s.captureAtStop =
      if s.tru.capState = .filling then
        { s with tru := { s.tru with capState := .full, toGo := 0 }, flags := s.flags ||| Event.captureFull.bit }
      else s := rfl

/-- R43: the order of an entry to STOPPED: the event, the switch, the capture, the batch. -/
theorem State.enterStopped_eq (s : State) :
    let stopped : State :=
      { s with emq := { s.emq with run := .stopped }, flags := s.flags ||| Event.streamStopped.bit }
    let switched := if s.tbs.anyPending then stopped.portGap.generationSwitch else stopped
    let captured : State :=
      if s.tru.capState = .filling then
        { switched with
          tru := { s.tru with capState := .full, toGo := 0 }
          flags := switched.flags ||| Event.captureFull.bit }
      else switched
    s.enterStopped = captured.closeBatch := by
  intro stopped switched captured
  have htru : stopped.stoppedSwitch.tru = s.tru := by simp [stopped]
  have hcaptured : stopped.stoppedSwitch.captureAtStop = captured := by
    rw [State.captureAtStop_eq, htru]
    rfl
  exact congrArg State.closeBatch hcaptured

/-- Settles O19: the two rows by their conditions, and the entry to STOPPED written out. -/
theorem runStateMovesByItself : Obligations.RunStateMovesByItself := by
  intro s
  obtain ⟨hend, hstay⟩ := s.drainTest_spec
  refine ⟨fun hw hr => congrArg State.settled (State.tryStart_of_ready hw hr),
    fun h => congrArg State.settled (State.tryStart_of_not_ready h),
    fun hr hq => congrArg State.settled (hend hr hq), fun h => congrArg State.settled (hstay h),
    s.tbs.anyPending, s.tbs.anyPending_iff, s.enterStopped_eq⟩

end Sys2Proof.Machine
end

section
/-! PROOFS. What a step can do to the Emission Queue, the echo pool and the banks that serve open pulses: a chain of moves of
seven kinds. Said once here for the three invariants of the queue (O51 to O53). -/

namespace Sys2Proof.Machine

/-! ### The view of the queue -/

/-- What the invariants of the queue read of a state. -/
structure QueueView where
  run : RunState
  queue : List Pulse
  accepted : BitVec 32
  closed : BitVec 32
  flushed : BitVec 32
  free : Nat
  active : Bank
  retiring : Bank
  generation : BitVec 8

/-- The view of a state. -/
def State.queueView (s : State) : QueueView where
  run := s.emq.run
  queue := s.emq.queue
  accepted := s.emq.accepted
  closed := s.emq.closed
  flushed := s.emq.flushed
  free := s.eca.free
  active := s.tbs.bankActive
  retiring := s.tbs.retiring
  generation := s.tbs.generation

/-- R104: the bank that serves a generation. -/
def QueueView.bankOf (v : QueueView) (gen : BitVec 8) : Bank := if gen = v.generation then v.active else v.retiring

/-- R60, R81: an entry within the windows and the MaxZone of its pulse. -/
def QueueView.entryFits (v : QueueView) (p : Pulse) (e : EchoEntry) : Prop :=
  inGlobalWindow (v.bankOf p.gen) e.range = true ∧ inSectorWindow (sectorEntry (v.bankOf p.gen) p) e.range = true ∧
    e.zone ≤ (sectorEntry (v.bankOf p.gen) p).maxZone

/-- R39: the run states in which no pulse is open. -/
def QueueView.resting (v : QueueView) : Prop := v.run = .stopped ∨ v.run = .waiting

/-! ### The moves -/

/-- R49: the head `p` is closed, and `rest` is left. -/
def QueueView.closeFront (v : QueueView) (p : Pulse) (rest : List Pulse) : QueueView :=
  { v with queue := rest, closed := v.closed + 1, free := v.free + p.echoes.length }

/-- R51: the queue is flushed. -/
def QueueView.flush (v : QueueView) : QueueView :=
  { v with
    queue := [], flushed := v.flushed + BitVec.ofNat 32 v.queue.length, free := v.free + heldEchoes v.queue }

/-- R47: a pulse joins the tail. -/
def QueueView.append (v : QueueView) (p : Pulse) : QueueView :=
  { v with queue := v.queue ++ [p], accepted := v.accepted + 1 }

/-- R65, R66: an echo is placed in the pulse at place `i`. -/
def QueueView.put (v : QueueView) (i : Nat) (p : Pulse) (x : EchoEntry) : QueueView :=
  let placed := p.place v.free (v.bankOf p.gen).policy.maxEchoes x
  { v with queue := v.queue.set i placed.1, free := if placed.2.1 then v.free - 1 else v.free }

/-- R114: a generation switch to the bank `b`. -/
def QueueView.switch (v : QueueView) (b : Bank) : QueueView :=
  { v with active := b, retiring := v.active, generation := v.generation + 1 }

/-- R46: room for one more pulse: there is some, or the head is evicted. -/
inductive MakesRoom : QueueView → QueueView → Prop where
  | spare {v : QueueView} (h : v.queue.length < Config.queueCapacity) : MakesRoom v v
  | evict {v : QueueView} {p : Pulse} {rest : List Pulse} (h : v.queue = p :: rest) : MakesRoom v (v.closeFront p rest)

/-- R38, R45, R47: what holds of a pulse that joins the tail. -/
structure QueueView.Takes (v : QueueView) (p : Pulse) : Prop where
  running : v.run = .running
  seq : p.seq = v.accepted
  later : ∀ q ∈ v.queue.getLast?, strictlyAfter p.tFire q.tFire = true
  gen : p.gen = v.generation
  echoes : p.echoes = []
  elevation : -(2 ^ 23) ≤ p.elevation ∧ p.elevation < 2 ^ 23

/-- The kinds of move, each with what holds when it is made. -/
inductive QueueMove : QueueView → QueueView → Prop where
  /-- R49. -/
  | close {v : QueueView} {p : Pulse} {rest : List Pulse} (h : v.queue = p :: rest) : QueueMove v (v.closeFront p rest)
  /-- R51. -/
  | flush (v : QueueView) : QueueMove v v.flush
  /-- R46, R47. -/
  | accept {v u : QueueView} {p : Pulse} (room : MakesRoom v u) (takes : u.Takes p) : QueueMove v (u.append p)
  /-- R65, R66. -/
  | put {v : QueueView} {i : Nat} {p : Pulse} {x : EchoEntry} (place : v.queue[i]? = some p) (fits : v.entryFits p x) :
    QueueMove v (v.put i p x)
  /-- R40 to R43, R52: a turn of the run state; one into STOPPED or WAITING finds no pulse open, or comes from there. -/
  | turn {v : QueueView} (r : RunState) (h : r = .stopped ∨ r = .waiting → v.queue = [] ∨ v.resting) :
    QueueMove v { v with run := r }
  /-- R111 to R114: a switch finds every open pulse in the current generation, or the run at rest. -/
  | switch {v : QueueView} (b : Bank) (h : (∀ p ∈ v.queue, p.gen = v.generation) ∨ v.resting) : QueueMove v (v.switch b)
  /-- R68, R69. -/
  | reset {v : QueueView} (active retiring : Bank) (generation : BitVec 8) :
    QueueMove v ⟨.stopped, [], 0, 0, 0, Config.poolCapacity, active, retiring, generation⟩

/-- From `s` to `t` the view of the queue goes by moves. -/
def Moves (s t : State) : Prop := Relation.ReflTransGen QueueMove s.queueView t.queueView

theorem Moves.refl (s : State) : Moves s s := Relation.ReflTransGen.refl

theorem Moves.trans {s t u : State} (h : Moves s t) (k : Moves t u) : Moves s u := Relation.ReflTransGen.trans h k

theorem Moves.one {s t : State} {v : QueueView} (h : QueueMove s.queueView v) (ht : t.queueView = v) : Moves s t :=
  Relation.ReflTransGen.single (ht ▸ h)

/-- Where the view stays, no move is made. -/
theorem Moves.of_view {s t : State} (h : t.queueView = s.queueView) : Moves s t := by
  unfold Moves
  rw [h]

/-- The view stays where queue and pool stay, and the tables but for the port's count. -/
theorem State.queueView_of_tables {s t : State} (hemq : t.emq = s.emq) (heca : t.eca = s.eca)
    (htbs : SameTables s.tbs t.tbs) : t.queueView = s.queueView := by
  obtain ⟨_, hactive, hretiring, _, _, hgen, _⟩ := htbs.fields
  simp only [State.queueView, hemq, heca, hactive, hretiring, hgen]

theorem State.queueView_pipelineRequest (s : State) : s.pipelineRequest.queueView = s.queueView :=
  State.queueView_of_tables (by simp) (by simp) s.pipelineRequest_tables

theorem Moves.of_blocks {s t : State} (hemq : t.emq = s.emq) (heca : t.eca = s.eca) (htbs : t.tbs = s.tbs) :
    Moves s t := Moves.of_view (State.queueView_of_tables hemq heca (htbs ▸ SameTables.refl _))

theorem Moves.ite {c : Prop} [Decidable c] {s t u : State} (ht : c → Moves s t) (hu : ¬c → Moves s u) :
    Moves s (if c then t else u) := by
  split
  · exact ht ‹_›
  · exact hu ‹_›

theorem State.moves_raise (s : State) (e : Event) : Moves s (s.raise e) := Moves.of_blocks rfl rfl rfl

/-! ### Switches and entries to STOPPED -/

theorem State.moves_portGap (s : State) : Moves s s.portGap :=
  Moves.of_view (State.queueView_of_tables (by simp) (by simp) s.portGap_tables)

theorem State.moves_pipelineRequest (s : State) : Moves s s.pipelineRequest :=
  Moves.of_view s.queueView_pipelineRequest

theorem State.moves_pipelineRequests (n : Nat) (s : State) : Moves s (State.pipelineRequests n s) :=
  Moves.of_view (State.queueView_of_tables (by simp) (by simp) (State.pipelineRequests_tables n s))

theorem State.moves_generationSwitch {s : State}
    (h : (∀ p ∈ s.emq.queue, p.gen = s.tbs.generation) ∨ s.emq.run = .stopped ∨ s.emq.run = .waiting) :
    Moves s s.generationSwitch :=
  Moves.one (.switch s.tbs.switch.bankActive h) (by
    simp [State.queueView, QueueView.switch, State.generationSwitch_tbs])

/-- R112: the notice switches where every open pulse is of the current generation. -/
theorem State.moves_boundaryNotice (s : State) : Moves s s.boundaryNotice := by
  rcases s.boundaryNotice_cases with ⟨_, hgen, e⟩ | ⟨_, e⟩ <;> rw [e]
  · exact State.moves_generationSwitch (.inl hgen)
  · exact Moves.refl s

/-- R113: the switch of an entry to STOPPED. -/
theorem State.moves_stoppedSwitch {s : State} (h : s.emq.run = .stopped) : Moves s s.stoppedSwitch := by
  rcases s.stoppedSwitch_cases with ⟨_, e⟩ | ⟨_, e⟩ <;> rw [e]
  · exact s.moves_portGap.trans (State.moves_generationSwitch (.inr (.inl (by simpa using h))))
  · exact Moves.refl s

theorem State.moves_turn {s : State} (r : RunState)
    (h : r = .stopped ∨ r = .waiting → s.emq.queue = [] ∨ s.emq.run = .stopped ∨ s.emq.run = .waiting) :
    Moves s (s.onEmq fun q => { q with run := r }) :=
  Moves.one (.turn r h) rfl

/-- R43: an entry to STOPPED with no pulse open, or from WAITING. -/
theorem State.moves_enterStopped {s : State}
    (h : s.emq.queue = [] ∨ s.emq.run = .stopped ∨ s.emq.run = .waiting) : Moves s s.enterStopped := by
  have hturn := (State.moves_turn .stopped fun _ => h).trans (State.moves_raise _ .streamStopped)
  refine (hturn.trans (State.moves_stoppedSwitch rfl)).trans (Moves.of_blocks ?_ ?_ ?_) <;> simp [State.enterStopped]

theorem State.moves_drainTest (s : State) : Moves s s.drainTest := by
  rcases s.drainTest_cases with ⟨_, hempty, e⟩ | ⟨_, e⟩ <;> rw [e]
  · exact State.moves_enterStopped (.inl hempty)
  · exact Moves.refl s

/-! ### Closing and resyncs -/

/-- R49: the close of the head, as one move, and the test for the end of a drain. -/
theorem State.moves_closeHead (s : State) (evicted : Bool) : Moves s (s.closeHead evicted) := by
  unfold State.closeHead
  split
  · exact Moves.refl s
  · rename_i p rest h
    refine Moves.trans ?_ (State.moves_drainTest _)
    exact Moves.one (.close h) (by simp [State.queueView, QueueView.closeFront])

theorem moves_closeExpired (n : Nat) (s : State) : Moves s (closeExpired n s) := by
  induction n generalizing s with
  | zero => exact Moves.refl s
  | succ n ih =>
    unfold closeExpired
    split
    · exact Moves.refl s
    · exact Moves.ite (fun _ => (s.moves_pipelineRequest.trans (State.moves_closeHead _ _)).trans (ih _))
        fun _ => s.moves_pipelineRequest

theorem State.moves_pulseClose (s : State) : Moves s s.pulseClose := by
  unfold State.pulseClose
  split
  · exact Moves.refl s
  · exact Moves.ite (fun _ => s.moves_pipelineRequest.trans (State.moves_closeHead _ _)) fun _ => s.moves_pipelineRequest

/-- R52: the end of a resync finds the queue flushed. -/
theorem State.moves_endResync {s : State} (h : s.emq.queue = []) (reason : ResyncReason) :
    Moves s (s.endResync reason) := by
  obtain ⟨hkeep, hlost, hdrain, hidle⟩ := s.endResync_spec reason
  cases hrun : s.emq.run with
  | running =>
    by_cases hk : reason = .command ∨ reason = .timeJump
    · rw [hkeep hrun hk]
      exact Moves.refl s
    · rw [hlost hrun hk]
      exact State.moves_turn .waiting fun _ => .inl h
  | draining =>
    rw [hdrain hrun]
    exact State.moves_enterStopped (.inl h)
  | stopped =>
    rw [hidle (.inl hrun)]
    exact Moves.refl s
  | waiting =>
    rw [hidle (.inr hrun)]
    exact Moves.refl s

/-- R51: a resync flushes the queue in one move. -/
theorem State.moves_doResync (s : State) (reason : ResyncReason) : Moves s (s.doResync reason) := by
  rw [State.doResync_eq]
  have hemq := s.flushAndMark_emq reason
  refine Moves.trans (Moves.one (.flush s.queueView) ?_) (State.moves_endResync (by rw [hemq]) reason)
  simp [State.queueView, QueueView.flush, State.flushAndMark]

theorem State.moves_askResync (s : State) (reason : ResyncReason) : Moves s (s.askResync reason) := by
  rcases s.askResync_cases reason with ⟨_, e⟩ | ⟨_, e⟩ <;> rw [e]
  · exact s.moves_doResync reason
  · exact Moves.refl s

/-! ### The tracker -/

theorem State.moves_setChannel (s : State) (id : ChannelId) (c : Channel) :
    Moves s (s.onAnt fun a => a.setChannel id c) := Moves.of_blocks rfl rfl rfl

theorem State.moves_handleIndex (s : State) (id : ChannelId) (raw : RawCount) : Moves s (s.handleIndex id raw) := by
  have hant := s.moves_setChannel id
  exact Moves.ite (fun _ => ((hant _).trans (State.moves_raise _ _)).trans (State.moves_askResync _ _)) fun _ => hant _

theorem State.moves_handleSample (s : State) (id : ChannelId) (raw : RawCount) : Moves s (s.handleSample id raw) := by
  have hant := s.moves_setChannel id
  unfold State.handleSample
  dsimp only
  split
  · exact hant _
  · exact (hant _).trans (State.moves_raise _ _)
  · exact ((hant _).trans (State.moves_raise _ _)).trans (State.moves_askResync _ _)

theorem State.moves_track (s : State) (mirror azimuth : RawCount) : Moves s (s.track mirror azimuth).1 :=
  (((State.moves_pipelineRequests _ s).trans (State.moves_handleSample _ .mirror mirror)).trans
    (State.moves_handleSample _ .azimuth azimuth)).trans (Moves.of_blocks rfl rfl rfl)

/-- R30: the elevation that the tracker hands on is a signed 24-bit value. -/
theorem State.track_elevation_mem {s : State} {mirror azimuth : RawCount} {m : MirrorAngles}
    (h : (s.track mirror azimuth).2.mirror = some m) : -(2 ^ 23) ≤ m.elevation ∧ m.elevation < 2 ^ 23 := by
  obtain ⟨hlo, hhi⟩ := mirrorAngles_elevation_mem h
  exact ⟨hlo, by omega⟩

/-! ### Acceptance -/

/-- R49: the view after a close that ends no drain. -/
theorem State.closeHead_queueView {s : State} {p : Pulse} {rest : List Pulse} (h : s.emq.queue = p :: rest)
    (hrun : s.emq.run = .running) (evicted : Bool) :
    (s.closeHead evicted).queueView = s.queueView.closeFront p rest := by
  rw [State.closeHead_of_stays h (by simp [hrun])]
  simp [State.queueView, QueueView.closeFront]

/-- R46: the view after an eviction in RUNNING. -/
theorem State.evictHead_queueView {s : State} {p : Pulse} {rest : List Pulse} (h : s.emq.queue = p :: rest)
    (hrun : s.emq.run = .running) : s.evictHead.queueView = s.queueView.closeFront p rest := by
  obtain ⟨first, hevict⟩ := s.evictHead_eq
  rw [hevict]
  cases first
  · exact State.closeHead_queueView (s := s.drawFree) h hrun true
  · exact State.closeHead_queueView (s := (s.raise .queueEvict).drawFree) h hrun true

/-- R46: room is made in RUNNING. -/
theorem State.makeRoom_makesRoom {s : State} (hrun : s.emq.run = .running) :
    MakesRoom s.queueView s.makeRoom.queueView := by
  unfold State.makeRoom
  split
  · rename_i hfull
    obtain ⟨p, rest, h⟩ := List.exists_cons_of_length_pos (lt_of_lt_of_le (by decide) hfull)
    rw [State.evictHead_queueView h hrun]
    exact .evict h
  · exact .spare (not_le.mp ‹_›)

/-- R46: the tail of a queue in which room was made is the tail it had. -/
theorem MakesRoom.getLast?_mem {v u : QueueView} (h : MakesRoom v u) {q : Pulse} (hq : q ∈ u.queue.getLast?) :
    q ∈ v.queue.getLast? := by
  cases h with
  | spare => exact hq
  | @evict p rest h =>
    rw [h]
    exact List.mem_getLast?_cons hq

theorem MakesRoom.fixed {v u : QueueView} (h : MakesRoom v u) :
    u.run = v.run ∧ u.accepted = v.accepted ∧ u.generation = v.generation := by
  cases h <;> simp [QueueView.closeFront]

/-- R128: the Exposure Unit's work leaves the view. -/
theorem State.queueView_exposureWork (s : State) (v : PulseView) : (s.exposureWork v).1.queueView = s.queueView :=
  State.queueView_of_tables (by simp) (by simp) (s.exposureWork_tables v)

/-- R46, R47: an acceptance is one move. -/
theorem State.moves_acceptPulse {s : State} (hrun : s.emq.run = .running) {t : Timestamp} {m : MirrorAngles}
    (hlater : s.emq.laterThanTail t = true) (hel : -(2 ^ 23) ≤ m.elevation ∧ m.elevation < 2 ^ 23) (azimuth : Azimuth) :
    Moves s (s.acceptPulse t m azimuth) := by
  have hroom := State.makeRoom_makesRoom hrun
  have hview := s.makeRoom.queueView_exposureWork { tFire := t, azimuth := azimuth, elevation := m.elevation }
  unfold State.acceptPulse
  dsimp only
  generalize s.makeRoom.exposureWork _ = w at hview
  rw [← hview] at hroom
  obtain ⟨hrun', _, _⟩ := hroom.fixed
  refine Moves.one (.accept hroom (p := w.1.newPulse t m azimuth w.2)
    ⟨hrun'.trans hrun, rfl, fun q hq => ?_, rfl, rfl, hel⟩) rfl
  exact (s.emq.laterThanTail_iff t).mp hlater q (hroom.getLast?_mem hq)

theorem State.moves_judgePulse {s : State} (hrun : s.emq.run = .running) (t : Timestamp) {k : Handoff}
    (hel : ∀ m, k.mirror = some m → -(2 ^ 23) ≤ m.elevation ∧ m.elevation < 2 ^ 23) : Moves s (s.judgePulse t k) := by
  rcases s.judgePulse_cases t k with e | e | ⟨m, azimuth, hm, _, _, _, _, hlater, e⟩ <;> rw [e]
  · exact Moves.refl s
  · exact Moves.of_blocks rfl rfl rfl
  · exact State.moves_acceptPulse hrun hlater (hel m hm) azimuth

/-- R41: the turn from WAITING to RUNNING. -/
theorem State.moves_tryStart (s : State) : Moves s s.tryStart := by
  rcases s.tryStart_cases with ⟨_, _, e⟩ | ⟨_, e⟩ <;> rw [e]
  · exact (State.moves_turn .running (by simp)).trans (Moves.of_blocks (by simp) (by simp) (by simp))
  · exact Moves.refl s

theorem State.moves_considerPulse (s : State) (t : Timestamp) {k : Handoff}
    (hel : ∀ m, k.mirror = some m → -(2 ^ 23) ≤ m.elevation ∧ m.elevation < 2 ^ 23) :
    Moves s (s.considerPulse t k) := by
  unfold State.considerPulse
  cases hrun : s.emq.run with
  | stopped => exact Moves.refl s
  | draining => exact Moves.refl s
  | running => exact State.moves_judgePulse hrun t hel
  | waiting =>
    refine Moves.ite (fun hstart => s.moves_tryStart.trans (State.moves_judgePulse ?_ t hel)) fun _ => Moves.refl s
    rw [State.tryStart_of_ready hrun (s.startConditions_iff_ready.mp hstart)]

theorem State.moves_handleFire (s : State) (t : Timestamp) (mirror azimuth : RawCount) :
    Moves s (s.handleFire t mirror azimuth) := by
  have hpulse := (s.moves_track mirror azimuth).trans
    (State.moves_considerPulse _ t (k := (s.track mirror azimuth).2) fun _ => State.track_elevation_mem)
  exact Moves.ite (fun _ => (hpulse.trans (State.moves_portGap _)).trans (State.moves_boundaryNotice _)) fun _ => hpulse

/-! ### Echoes -/

/-- R60, R81: what an acceptable candidate brings to its pulse lies within its windows. -/
theorem State.acceptables_entryFits {s : State} {te : Timestamp} {amp : Nat} {a : Acceptable}
    (h : a ∈ s.acceptables te amp) (amplitude : BitVec 12) (width : BitVec 10) :
    s.emq.queue[a.cand.place]? = some a.cand.pulse ∧
      s.queueView.entryFits a.cand.pulse
        { amplitude := amplitude, width := width, range := a.range.toNat, zone := a.cand.zone } := by
  obtain ⟨hcand, hacc⟩ := s.acceptables_mem h
  obtain ⟨_, _, hglobal, hsector, hzone⟩ := s.acceptable?_some hacc
  have hrange : ((a.range.toNat : Nat) : Int) = a.range := by
    refine Int.toNat_of_nonneg ?_
    unfold inGlobalWindow at hglobal
    simp only [decide_eq_true_eq] at hglobal
    omega
  refine ⟨(s.candidates_mem hcand).1, ?_, ?_, hzone⟩
  · rw [hrange]
    exact hglobal
  · rw [hrange]
    exact hsector

/-- R65, R66: a placement is one move. -/
theorem State.moves_placeEcho {s : State} {a : Acceptable} {amplitude : BitVec 12} {width : BitVec 10}
    (hplace : s.emq.queue[a.cand.place]? = some a.cand.pulse)
    (hfits : s.queueView.entryFits a.cand.pulse
      { amplitude := amplitude, width := width, range := a.range.toNat, zone := a.cand.zone }) :
    Moves s (s.placeEcho a amplitude width) :=
  Moves.one (.put hplace hfits) (by rw [State.placeEcho_eq]; rfl)

/-- R63, R65: the Zone Track and the port request stand before the placement. -/
theorem State.moves_assignEcho {s u : State} {te : Timestamp} {amp : Nat} {a : Acceptable} (h : a ∈ s.acceptables te amp)
    (hview : u.queueView = s.queueView) (amplitude : BitVec 12) (width : BitVec 10) :
    Moves s (u.assignEcho a amplitude width) := by
  obtain ⟨hplace, hfits⟩ := State.acceptables_entryFits h amplitude width
  unfold State.assignEcho
  dsimp only
  generalize hn : (u.onEca fun e => _) = noted
  have hnoted : noted.pipelineRequest.queueView = s.queueView := by
    rw [State.queueView_pipelineRequest, ← hn, ← hview]
    rfl
  refine (Moves.of_view hnoted).trans (State.moves_placeEcho ?_ (hnoted ▸ hfits))
  exact (congrArg (fun v : QueueView => v.queue[a.cand.place]?) hnoted).trans hplace

theorem State.moves_decideEcho (s : State) (te : Timestamp) (amplitude : BitVec 12) (width : BitVec 10) :
    Moves s (s.decideEcho te amplitude width) := by
  rcases s.decideEcho_cases te amplitude width with ⟨_, e⟩ | ⟨a, ha, e⟩ | ⟨a, b, rest, c, ha, hc, e⟩ | ⟨a, b, rest, _, _, e⟩ <;>
    rw [e]
  · exact Moves.of_view rfl
  · exact State.moves_assignEcho (ha ▸ List.mem_singleton_self a) rfl amplitude width
  · exact State.moves_assignEcho (ha ▸ State.resolve_mem _ hc) (by rfl) amplitude width
  · exact Moves.of_view rfl

theorem State.moves_handleEcho (s : State) (te : Timestamp) (amplitude : BitVec 12) (width : BitVec 10) :
    Moves s (s.handleEcho te amplitude width) := by
  have hecho : Moves s ((State.pipelineRequests (s.echoRequests te amplitude.toNat) s).decideEcho te amplitude width) :=
    (State.moves_pipelineRequests _ s).trans (State.moves_decideEcho _ te amplitude width)
  unfold State.handleEcho
  cases s.emq.run with
  | running => exact hecho
  | draining => exact hecho
  | stopped => exact Moves.refl s
  | waiting => exact Moves.refl s

/-! ### Commands -/

/-- R187: a command refused for its length changes nothing. -/
theorem Moves.ofLength {s : State} {k : Reply} (h : Moves s k.state) (n : Nat) (args : List Byte) :
    Moves s (Reply.ofLength n args s k).state := by
  unfold Reply.ofLength
  split
  · exact h
  · exact Moves.refl s

/-- R111: a commit switches at once where the run is at rest. -/
theorem State.moves_takeCommit (s : State) (t : TableId) : Moves s (s.takeCommit t).state := by
  have hmark : Moves s (s.onTbs fun b => { b with stagedStatus := b.stagedStatus.set t .pending }) := Moves.of_view rfl
  unfold State.takeCommit
  dsimp only
  split
  · exact hmark.trans (State.moves_generationSwitch (.inr ‹_›))
  · exact hmark

theorem State.moves_tableCommit (s : State) (args : List Byte) : Moves s (cmdTableCommit args s).state := by
  refine Moves.ofLength ?_ 1 args
  unfold State.commitTable
  repeat' split
  case h_2 => exact s.moves_takeCommit _
  all_goals exact Moves.refl s

theorem State.moves_start (s : State) (args : List Byte) : Moves s (cmdStart args s).state := by
  refine Moves.ofLength ?_ 0 args
  split
  · exact (State.moves_turn .waiting fun _ => .inr (.inl ‹_›)).trans (State.moves_tryStart _)
  · exact Moves.refl s

theorem State.moves_stop (s : State) (args : List Byte) : Moves s (cmdStop args s).state := by
  refine Moves.ofLength ?_ 0 args
  cases hrun : s.emq.run with
  | running =>
    dsimp only
    split
    · exact State.moves_enterStopped (.inl ‹_›)
    · exact State.moves_turn .draining (by simp)
  | waiting => exact State.moves_enterStopped (.inr (.inr hrun))
  | stopped => exact Moves.refl s
  | draining => exact Moves.refl s

theorem State.moves_resync (s : State) (args : List Byte) : Moves s (cmdResync args s).state :=
  Moves.ofLength (s.moves_doResync .command) 0 args

theorem State.moves_reset (s : State) (args : List Byte) : Moves s (cmdReset args s).state :=
  Moves.ofLength (Moves.one (.reset _ _ _) rfl) 0 args

/-- R109: a write to STAGED leaves the view. -/
theorem cmdTableWrite_queueView (s : State) (args : List Byte) : (cmdTableWrite args s).state.queueView = s.queueView := by
  unfold cmdTableWrite State.writeTable
  dsimp only
  repeat' split
  all_goals rfl

/-- R116: a cancel leaves the view. -/
theorem cmdTableCancel_queueView (s : State) (args : List Byte) :
    (cmdTableCancel args s).state.queueView = s.queueView := by
  unfold cmdTableCancel Reply.ofLength State.cancelTable
  repeat' split
  all_goals rfl

/-- R124: a protection word leaves the view. -/
theorem cmdSetProtect_queueView (s : State) (args : List Byte) : (cmdSetProtect args s).state.queueView = s.queueView := by
  unfold cmdSetProtect Reply.ofLength
  repeat' split
  all_goals rfl

/-- R187: what a command other than TABLE_READ does. -/
theorem State.moves_replyTo (s : State) (c : Command) : Moves s (replyTo c s).state := by
  have hwrite := Moves.of_view (cmdTableWrite_queueView s c.args)
  have hcancel := Moves.of_view (cmdTableCancel_queueView s c.args)
  have hprotect := Moves.of_view (cmdSetProtect_queueView s c.args)
  refine replyTo_cases s c (fun r => Moves s r.state) ?_ ?_ ?_ ?_ ?_ ?_ hwrite (s.moves_tableCommit c.args) hcancel ?_
    hprotect (s.moves_start c.args) (s.moves_stop c.args) (s.moves_resync c.args) ?_ ?_ ?_ ?_ (s.moves_reset c.args)
    (Moves.refl s) <;>
    exact Moves.of_blocks (by simp) (by simp) (by simp)

theorem State.moves_takeCommand (s : State) (c : Command) : Moves s (s.takeCommand c) := by
  rcases s.takeCommand_cases c with ⟨r, _, _, e⟩ | ⟨x, _, _, e⟩ | ⟨_, e⟩ <;> rw [e]
  · exact Moves.of_view rfl
  · exact Moves.of_blocks (by simp [State.refuse]) (by simp [State.refuse]) (by simp [State.refuse])
  · exact (s.moves_replyTo c).trans (Moves.of_blocks (by simp) (by simp) (by simp))

theorem State.moves_deliverCommand (s : State) (c : Command) : Moves s (s.deliverCommand c) := by
  rcases s.deliverCommand_cases c with ⟨_, _, e⟩ | ⟨_, _, e⟩ | ⟨_, _, e⟩ <;> rw [e]
  · exact s.moves_takeCommand c
  · exact Moves.of_view rfl
  · exact Moves.of_blocks (by simp [State.refuse]) (by simp [State.refuse]) (by simp [State.refuse])

theorem moves_drainCommands (n : Nat) (s : State) : Moves s (drainCommands n s) := by
  induction n generalizing s with
  | zero => exact Moves.refl s
  | succ n ih =>
    unfold drainCommands
    split
    · rename_i c rest _ _
      have hqueue : Moves s (s.onCmi fun m => { m with queue := rest }) := Moves.of_view rfl
      exact (hqueue.trans (State.moves_takeCommand _ c)).trans (ih _)
    · exact Moves.refl s

/-- R121, R186: the end of a row. -/
theorem State.moves_settleRead (s : State) : Moves s s.settleRead := by
  have hanswer : Moves s s.answerRead := by
    rcases s.answerRead_cases with ⟨r, _, _, e⟩ | ⟨_, e⟩ <;> rw [e]
    · exact Moves.of_blocks (by simp) (by simp) (by simp)
    · exact Moves.refl s
  unfold State.settleRead
  rcases s.answerRead.takeQueued_cases with ⟨_, _, n, e⟩ | ⟨_, e⟩ <;> rw [e]
  · exact (hanswer.trans (Moves.of_view (by rfl))).trans (moves_drainCommands n _)
  · exact hanswer

/-! ### Records and frames -/

/-- R9: an advance closes what has expired. -/
theorem State.moves_advance (s : State) (t : Timestamp) : Moves s (s.advance t) := by
  have htime : Moves s (s.setTime t) := Moves.of_view rfl
  have hclosing : Moves (s.setTime t) (s.setTime t).closing := moves_closeExpired _ _
  have hage : Moves (s.setTime t).closing (s.advance t) :=
    Moves.of_blocks (by simp [State.advance]) (by simp [State.advance]) (by simp [State.advance])
  exact (htime.trans hclosing).trans hage

/-- Section 1.5: where every handling of a record goes by moves, the record does. -/
theorem State.moves_timed (s : State) (t : Timestamp) {handle : State → State} (hk : ∀ u : State, Moves u (handle u)) :
    Moves s (s.timed t handle) := by
  rcases s.timed_cases t handle with ⟨_, e⟩ | ⟨_, e⟩ | ⟨_, e⟩ | ⟨_, e⟩ <;> rw [e]
  · exact (s.moves_advance t).trans (hk _)
  · exact hk s
  · exact hk s
  · exact Moves.trans (Moves.of_view (by rfl)) (State.moves_askResync (s.setTime t) .timeJump)

/-- Section 1.4: a delivered record of any kind. -/
theorem State.moves_deliver (s : State) (r : Record) : Moves s (s.deliver r) := by
  cases r with
  | fire t m a => exact s.moves_timed t fun u => u.moves_handleFire t m a
  | echo t a w => exact s.moves_timed t fun u => u.moves_handleEcho t a w
  | tick t => exact s.moves_timed t Moves.refl
  | index c raw => exact s.moves_handleIndex c raw
  | tile n st cols rows cells =>
    exact Moves.ite (fun _ => Moves.of_blocks (by simp) (by simp) (by simp)) fun _ => Moves.of_view rfl
  | cmd c => exact Moves.ite (fun _ => s.moves_deliverCommand c) fun _ => Moves.of_view rfl

theorem State.moves_classified (s : State) (kind : Byte) (payload : List Byte) : Moves s (s.classified kind payload) := by
  unfold State.classified
  split
  · exact s.moves_deliver _
  · exact Moves.of_view rfl

/-- R4: the loss of the link asks for a resync. -/
theorem State.moves_frameFails (s : State) : Moves s s.frameFails := by
  unfold State.frameFails State.syncFail
  dsimp only
  repeat' split
  · exact Moves.of_view rfl
  · exact Moves.of_view rfl
  · exact Moves.trans (Moves.of_view (by rfl)) (State.moves_askResync _ _)

theorem State.moves_receiveBytes (s : State) (bytes : List Byte) : Moves s (s.receiveBytes bytes) := by
  have hpassed : Moves s s.passed := Moves.of_view rfl
  rcases s.receiveBytes_cases bytes with ⟨_, e⟩ | ⟨_, _, e⟩ | ⟨_, _, _, e⟩ | ⟨_, kind, payload, _, e⟩ <;> rw [e]
  · exact Moves.refl s
  · exact s.moves_frameFails
  · exact Moves.of_view rfl
  · exact hpassed.trans (State.moves_classified _ kind payload)

theorem State.moves_receiveRecord (s : State) (r : Record) : Moves s (s.receiveRecord r) := by
  have hpassed : Moves s s.passed := Moves.of_view rfl
  rcases s.receiveRecord_cases r with ⟨_, e⟩ | ⟨_, _, e⟩ | ⟨_, e⟩ <;> rw [e]
  · exact Moves.refl s
  · exact Moves.of_view rfl
  · exact hpassed.trans (State.moves_deliver _ r)

/-! ### Rows and steps -/

theorem State.moves_withLines (s : State) (l : Lines) : Moves s (s.withLines l) :=
  Moves.of_blocks (by simp) (by simp) (by simp)

theorem State.moves_atLines (s : State) (o : Option Lines) : Moves s (s.atLines o) := by
  cases o with
  | none => exact Moves.refl s
  | some l => exact s.moves_withLines l

/-- A row that ends by settling the read. -/
theorem Moves.settled {s u t : State} (h : Moves s u) (he : u.settled = .next t) : Moves s t := by
  cases he
  exact h.trans u.moves_settleRead

theorem exec_moves {i : Instr} {s t : State} (he : exec i s = .next t) : Moves s t := by
  cases hr : recordOf i with
  | some ro =>
    obtain ⟨r, o⟩ := ro
    rw [exec_of_recordOf s hr] at he
    exact ((s.moves_atLines o).trans (State.moves_receiveRecord _ r)).settled he
  | none =>
    cases i
    case powerOnReset l => cases he; exact Moves.one (.reset _ _ _) rfl
    case lineReset => cases he; exact Moves.one (.reset _ _ _) rfl
    case resetNRelease l =>
      cases he
      exact Moves.trans (Moves.of_view (by rfl)) (State.moves_withLines _ l)
    case frameCheckFail bytes => exact (s.moves_receiveBytes bytes).settled he
    case huntFrame bytes => exact (s.moves_receiveBytes bytes).settled he
    case frameRefused bytes => exact (s.moves_receiveBytes bytes).settled he
    case tableReadFetch l =>
      have hgrant := State.queueView_of_tables (t := (s.withLines l).grantCommand) (by simp) (by simp)
        (s.withLines l).grantCommand_tables
      exact ((s.moves_withLines l).trans (Moves.of_view hgrant)).settled he
    case pulseClose => exact s.moves_pulseClose.settled he
    case batchFlush => exact (Moves.of_blocks (by simp) (by simp) (by simp)).settled he
    case l2WindowEnd =>
      refine Moves.settled ?_ he
      exact Moves.ite (fun _ => Moves.of_view (by rfl)) fun _ => Moves.refl s
    case captureFull =>
      refine Moves.settled ?_ he
      exact Moves.ite (fun _ => Moves.of_view (by rfl)) fun _ => Moves.refl s
    case tileTimeout laser =>
      refine Moves.settled ?_ he
      exact Moves.ite (fun _ => Moves.of_blocks (by simp) (by simp) (by simp)) fun _ => Moves.refl s
    case tileRetire laser =>
      refine Moves.settled ?_ he
      exact Moves.ite (fun _ => Moves.of_view (by rfl)) fun _ => Moves.refl s
    case generationSwitch => exact s.moves_boundaryNotice.settled he
    case streamStarted => exact s.moves_tryStart.settled he
    case drainEnd => exact s.moves_drainTest.settled he
    case recReadyRise => exact (Moves.of_view (by rfl)).settled he
    case frameDepartureEnd l =>
      have hl := s.moves_withLines l
      refine Moves.settled ?_ he
      exact Moves.ite (fun _ => hl.trans (Moves.of_blocks (by simp) (by simp) (by simp))) fun _ => hl
    case rspWaitAdmit => exact (Moves.of_blocks (by simp) (by simp) (by simp)).settled he
    case camTrigPulseEnd => exact (Moves.of_view (by rfl)).settled he
    all_goals cases hr

/-- Every step, the idle one too, changes the view by moves alone. -/
theorem step_moves {s t : State} (h : step s = .next t) : Moves s t := by
  unfold step at h
  split at h
  · cases h
    exact moves_drainCommands 1 s
  · exact Moves.trans (Moves.of_view (by rfl)) (exec_moves h)

/-- What every move keeps, every step keeps. -/
theorem step_keeps {P : QueueView → Prop} (hP : ∀ v w, QueueMove v w → P v → P w) {s t : State} (h : step s = .next t)
    (hs : P s.queueView) : P t.queueView := by
  have hmoves := step_moves h
  unfold Moves at hmoves
  generalize t.queueView = w at hmoves
  induction hmoves with
  | refl => exact hs
  | tail _ hmove ih => exact hP _ _ hmove ih

end Sys2Proof.Machine
end

section
/-! PROOFS. The three invariants of the queue, each kept by every move: pool and accounts (O51), order (O52), service (O53). -/

namespace Sys2Proof.Machine

/-! ### Pool and accounts (R54, R64) -/

/-- R54, R64: the pool and the pulse accounts of a view. -/
def QueueView.balanced (v : QueueView) : Prop :=
  v.free + heldEchoes v.queue = Config.poolCapacity ∧
    v.accepted = v.closed + v.flushed + BitVec.ofNat 32 v.queue.length

theorem State.balanced_iff (s : State) : s.queueView.balanced ↔ s.poolBalanced ∧ s.accountsBalance := Iff.rfl

/-- The entries held when the pulse at a place is replaced. -/
theorem heldEchoes_set {ps : List Pulse} {i : Nat} {p : Pulse} (h : ps[i]? = some p) (q : Pulse) :
    heldEchoes (ps.set i q) + p.echoes.length = heldEchoes ps + q.echoes.length := by
  induction ps generalizing i with
  | nil => simp at h
  | cons x xs ih =>
    cases i with
    | zero =>
      obtain rfl : x = p := by simpa using h
      simp only [List.set_cons_zero, heldEchoes_cons]
      omega
    | succ i =>
      have := ih (i := i) (by simpa using h)
      simp only [List.set_cons_succ, heldEchoes_cons]
      omega

/-- R65, R66: a placement takes from the pool what the list grows by. -/
theorem Pulse.place_balance (p : Pulse) (free maxEchoes : Nat) (x : EchoEntry) :
    (if (p.place free maxEchoes x).2.1 then free - 1 else free) + (p.place free maxEchoes x).1.echoes.length =
      free + p.echoes.length := by
  rcases p.place_cases free maxEchoes x with ⟨_, e⟩ | ⟨hfree, _, e⟩ | ⟨_, _, e⟩ <;> rw [e]
  · rfl
  · simp only [if_true, insertEcho_length]
    omega
  · simp

theorem QueueView.balanced.closeFront {v : QueueView} (h : v.balanced) {p : Pulse} {rest : List Pulse}
    (hq : v.queue = p :: rest) : (v.closeFront p rest).balanced := by
  obtain ⟨hpool, haccounts⟩ := h
  rw [hq] at hpool haccounts
  refine ⟨?_, ?_⟩
  · simp only [QueueView.closeFront, heldEchoes_cons] at hpool ⊢
    omega
  · simp only [QueueView.closeFront, haccounts, List.length_cons, BitVec.ofNat_add]
    ac_rfl

theorem QueueView.balanced.makesRoom {v u : QueueView} (h : v.balanced) (hroom : MakesRoom v u) : u.balanced := by
  cases hroom with
  | spare => exact h
  | evict hq => exact h.closeFront hq

theorem QueueView.balanced.move {v w : QueueView} (h : v.balanced) (hmove : QueueMove v w) : w.balanced := by
  cases hmove with
  | close hq => exact h.closeFront hq
  | flush =>
    obtain ⟨hpool, haccounts⟩ := h
    refine ⟨hpool, ?_⟩
    simp [QueueView.flush, haccounts, BitVec.add_assoc]
  | accept room takes =>
    obtain ⟨hpool, haccounts⟩ := h.makesRoom room
    refine ⟨?_, ?_⟩
    · simpa [QueueView.append, takes.echoes] using hpool
    · simp [QueueView.append, haccounts, BitVec.ofNat_add, BitVec.add_assoc]
  | @put i p x place _ =>
    obtain ⟨hpool, haccounts⟩ := h
    refine ⟨?_, ?_⟩
    · have hset := heldEchoes_set place (p.place v.free (v.bankOf p.gen).policy.maxEchoes x).1
      have hplace := p.place_balance v.free (v.bankOf p.gen).policy.maxEchoes x
      simp only [QueueView.put]
      omega
    · simpa [QueueView.put] using haccounts
  | turn => exact h
  | switch => exact h
  | reset => exact ⟨rfl, rfl⟩

/-- Settles O51: every move keeps the balance, so every step does. -/
theorem poolAndAccountsBalance : Obligations.PoolAndAccountsBalance :=
  fun _ t hpool haccounts hstep =>
    t.balanced_iff.mp (step_keeps (fun _ _ hmove h => h.move hmove) hstep ⟨hpool, haccounts⟩)

/-! ### The order of the queue (R39) -/

/-- R39: the order of a view's queue. -/
def QueueView.inOrder (v : QueueView) : Prop :=
  v.queue.length ≤ Config.queueCapacity ∧ v.queue.IsChain Follows ∧
    (∀ p ∈ v.queue.getLast?, p.seq + 1 = v.accepted) ∧ (v.resting → v.queue = [])

theorem State.inOrder_iff (s : State) : s.queueView.inOrder ↔ s.queueInOrder := Iff.rfl

theorem QueueView.inOrder_of_empty {v : QueueView} (h : v.queue = []) : v.inOrder := by
  simp [QueueView.inOrder, h]

/-- What the order reads of a pulse. -/
def Pulse.key (p : Pulse) : BitVec 32 × Timestamp := (p.seq, p.tFire)

/-- `Follows`, of the keys. -/
def KeyFollows (a b : BitVec 32 × Timestamp) : Prop := b.1 = a.1 + 1 ∧ strictlyAfter b.2 a.2 = true

theorem isChain_follows_iff (ps : List Pulse) : ps.IsChain Follows ↔ (ps.map Pulse.key).IsChain KeyFollows :=
  (List.isChain_map (R := KeyFollows) Pulse.key).symm

theorem last_seq_iff (ps : List Pulse) (n : BitVec 32) :
    (∀ p ∈ ps.getLast?, p.seq + 1 = n) ↔ ∀ k ∈ (ps.map Pulse.key).getLast?, k.1 + 1 = n := by
  simp [List.getLast?_map, Pulse.key]

/-- A pulse replaced by one of the same seq and fire time leaves the keys of the queue. -/
theorem map_key_set {ps : List Pulse} {i : Nat} {p q : Pulse} (h : ps[i]? = some p) (hkey : q.key = p.key) :
    (ps.set i q).map Pulse.key = ps.map Pulse.key := by
  obtain ⟨hi, rfl⟩ := List.getElem?_eq_some_iff.mp h
  rw [List.map_set, hkey, ← List.getElem_map Pulse.key (h := by simpa using hi), List.set_getElem_self]

theorem QueueView.inOrder.closeFront {v : QueueView} (h : v.inOrder) {p : Pulse} {rest : List Pulse}
    (hq : v.queue = p :: rest) : (v.closeFront p rest).inOrder := by
  obtain ⟨hlength, hchain, hlast, hrest⟩ := h
  rw [hq] at hlength hchain
  refine ⟨?_, hchain.tail, fun q hq' => hlast q ?_, fun hr => ?_⟩
  · simp only [QueueView.closeFront, List.length_cons] at hlength ⊢
    omega
  · rw [hq]
    exact List.mem_getLast?_cons hq'
  · have := hrest hr
    simp [hq] at this

/-- R46: with room made, the queue is in order below its capacity. -/
theorem QueueView.inOrder.makesRoom {v u : QueueView} (h : v.inOrder) (hroom : MakesRoom v u) :
    u.inOrder ∧ u.queue.length < Config.queueCapacity := by
  cases hroom with
  | spare hlt => exact ⟨h, hlt⟩
  | @evict p rest hq =>
    refine ⟨h.closeFront hq, ?_⟩
    obtain ⟨hlength, _⟩ := h
    rw [hq, List.length_cons] at hlength
    simp only [QueueView.closeFront]
    omega

/-- R39, R45, R47: a pulse that joins the tail follows it. -/
theorem QueueView.inOrder.append {v : QueueView} (h : v.inOrder) (hlt : v.queue.length < Config.queueCapacity)
    {p : Pulse} (hp : v.Takes p) : (v.append p).inOrder := by
  obtain ⟨_, hchain, hlast, _⟩ := h
  refine ⟨by simpa [QueueView.append] using hlt, ?_, ?_, fun hr => ?_⟩
  · refine List.isChain_append.mpr ⟨hchain, List.isChain_singleton _, fun q hq r hr => ?_⟩
    obtain rfl : p = r := by simpa using hr
    exact ⟨hp.seq.trans (hlast q hq).symm, hp.later q hq⟩
  · simp [QueueView.append, hp.seq]
  · simp [QueueView.resting, QueueView.append, hp.running] at hr

theorem QueueView.inOrder.move {v w : QueueView} (h : v.inOrder) (hmove : QueueMove v w) : w.inOrder := by
  cases hmove with
  | close hq => exact h.closeFront hq
  | flush => exact QueueView.inOrder_of_empty rfl
  | accept room takes =>
    obtain ⟨hu, hlt⟩ := h.makesRoom room
    exact hu.append hlt takes
  | @put i p x place _ =>
    obtain ⟨hlength, hchain, hlast, hrest⟩ := h
    obtain ⟨es, o, hfixed⟩ := p.place_fixed v.free (v.bankOf p.gen).policy.maxEchoes x
    have hkeys : (v.put i p x).queue.map Pulse.key = v.queue.map Pulse.key :=
      map_key_set place (by rw [hfixed]; rfl)
    refine ⟨by simpa [QueueView.put] using hlength, ?_, ?_, fun hr => ?_⟩
    · rw [isChain_follows_iff, hkeys, ← isChain_follows_iff]
      exact hchain
    · rw [last_seq_iff, hkeys, ← last_seq_iff]
      exact hlast
    · have := hrest hr
      simp [this] at place
  | turn r hr =>
    obtain ⟨hlength, hchain, hlast, hrest⟩ := h
    exact ⟨hlength, hchain, hlast, fun hnew => (hr hnew).elim id hrest⟩
  | switch => exact h
  | reset => exact QueueView.inOrder_of_empty rfl

/-- Settles O52: every move keeps the order, so every step does. -/
theorem queueStaysInOrder : Obligations.QueueStaysInOrder :=
  fun s t h hstep => t.inOrder_iff.mp (step_keeps (fun _ _ hmove h => h.move hmove) hstep (s.inOrder_iff.mpr h))

/-! ### The service of open pulses (R45, R64, R65, R81, R112) -/

/-- R112, R64, R65, R81, R45: what holds of an open pulse of a view. -/
def QueueView.serves (v : QueueView) (p : Pulse) : Prop :=
  (p.gen = v.generation ∨ p.gen = v.generation - 1) ∧ p.echoes.Pairwise (fun x y => x.range ≤ y.range) ∧
    p.echoes.length ≤ (v.bankOf p.gen).policy.maxEchoes ∧ (∀ e ∈ p.echoes, v.entryFits p e) ∧
    (-(2 ^ 23) ≤ p.elevation ∧ p.elevation < 2 ^ 23)

/-- R112, R39: every open pulse of a view is served, and none is open at rest. -/
def QueueView.servesAll (v : QueueView) : Prop := (∀ p ∈ v.queue, v.serves p) ∧ (v.resting → v.queue = [])

theorem State.servesAll_iff (s : State) : s.queueView.servesAll ↔ s.pulsesServed := Iff.rfl

theorem QueueView.servesAll_of_empty {v : QueueView} (h : v.queue = []) : v.servesAll := by
  simp [QueueView.servesAll, h]

theorem QueueView.servesAll.closeFront {v : QueueView} (h : v.servesAll) {p : Pulse} {rest : List Pulse}
    (hq : v.queue = p :: rest) : (v.closeFront p rest).servesAll := by
  obtain ⟨hserves, hrest⟩ := h
  rw [hq] at hserves
  refine ⟨fun q hmem => hserves q (List.mem_cons_of_mem _ hmem), fun hr => ?_⟩
  have := hrest hr
  simp [hq] at this

theorem QueueView.servesAll.makesRoom {v u : QueueView} (h : v.servesAll) (hroom : MakesRoom v u) : u.servesAll := by
  cases hroom with
  | spare => exact h
  | evict hq => exact h.closeFront hq

/-- R47: a pulse that joins the tail is served by the current generation. -/
theorem QueueView.Takes.serves {v : QueueView} {p : Pulse} (h : v.Takes p) : v.serves p :=
  ⟨.inl h.gen, by simp [h.echoes], by simp [h.echoes], by simp [h.echoes], h.elevation⟩

/-- R65, R66: a placement within the windows keeps a pulse served. -/
theorem QueueView.serves.place {v : QueueView} {p : Pulse} (h : v.serves p) {x : EchoEntry} (hx : v.entryFits p x) :
    v.serves (p.place v.free (v.bankOf p.gen).policy.maxEchoes x).1 := by
  obtain ⟨hgen, hsorted, hlength, hfits, hel⟩ := h
  have hsorted' := Pulse.place_pairwise hsorted v.free (v.bankOf p.gen).policy.maxEchoes x
  have hlength' := Pulse.place_length_le hlength v.free x
  have hmem : ∀ e ∈ (p.place v.free (v.bankOf p.gen).policy.maxEchoes x).1.echoes, e = x ∨ e ∈ p.echoes := by
    intro e he
    rcases p.place_cases v.free (v.bankOf p.gen).policy.maxEchoes x with ⟨_, hp⟩ | ⟨_, _, hp⟩ | ⟨_, _, hp⟩ <;>
      rw [hp] at he
    · exact .inr he
    · exact (mem_insertEcho x e _).mp he
    · exact (mem_insertEcho x e _).mp (List.mem_of_mem_dropLast he)
  obtain ⟨es, o, hfixed⟩ := p.place_fixed v.free (v.bankOf p.gen).policy.maxEchoes x
  rw [hfixed] at hsorted' hlength' hmem ⊢
  exact ⟨hgen, hsorted', hlength', fun e he => (hmem e he).elim (fun h => h ▸ hx) (hfits e), hel⟩

/-- R112, R114: a switch leaves a pulse of the current generation in the one before, with the bank it had. -/
theorem QueueView.serves.switch {v : QueueView} {p : Pulse} (h : v.serves p) (hgen : p.gen = v.generation) (b : Bank) :
    (v.switch b).serves p := by
  obtain ⟨_, hsorted, hlength, hfits, hel⟩ := h
  have hne : p.gen ≠ v.generation + 1 := by
    rw [hgen]
    bv_omega
  have hbank : (v.switch b).bankOf p.gen = v.bankOf p.gen := (if_neg hne).trans (if_pos hgen).symm
  refine ⟨.inr ?_, hsorted, hbank ▸ hlength, fun e he => ?_, hel⟩
  · simp [QueueView.switch, hgen]
  · unfold QueueView.entryFits
    rw [hbank]
    exact hfits e he

theorem QueueView.servesAll.move {v w : QueueView} (h : v.servesAll) (hmove : QueueMove v w) : w.servesAll := by
  cases hmove with
  | close hq => exact h.closeFront hq
  | flush => exact QueueView.servesAll_of_empty rfl
  | accept room takes =>
    obtain ⟨hserves, _⟩ := h.makesRoom room
    refine ⟨fun q hq => ?_, fun hr => ?_⟩
    · rcases List.mem_append.mp hq with hq | hq
      · exact hserves q hq
      · obtain rfl := List.mem_singleton.mp hq
        exact takes.serves
    · simp [QueueView.resting, QueueView.append, takes.running] at hr
  | put place fits =>
    obtain ⟨hserves, hrest⟩ := h
    refine ⟨fun q hq => ?_, fun hr => ?_⟩
    · rcases List.mem_or_eq_of_mem_set hq with hq | rfl
      · exact hserves q hq
      · exact (hserves _ (List.mem_of_getElem? place)).place fits
    · have := hrest hr
      simp [this] at place
  | turn r hr =>
    obtain ⟨hserves, hrest⟩ := h
    exact ⟨hserves, fun hnew => (hr hnew).elim id hrest⟩
  | switch b hb =>
    obtain ⟨hserves, hrest⟩ := h
    refine ⟨fun p hp => ?_, hrest⟩
    rcases hb with hgen | hr
    · exact (hserves p hp).switch (hgen p hp) b
    · have hempty : v.queue = [] := hrest hr
      simp [QueueView.switch, hempty] at hp
  | reset => exact QueueView.servesAll_of_empty rfl

/-- Settles O53: every move keeps open pulses served, so every step does. -/
theorem pulsesStayServed : Obligations.PulsesStayServed :=
  fun s t h hstep => t.servesAll_iff.mp (step_keeps (fun _ _ hmove h => h.move hmove) hstep (s.servesAll_iff.mpr h))

end Sys2Proof.Machine
end

section
/-! PROOFS. The five stages of the range conversion and the bounds of a range (O23). -/

namespace Sys2Proof.Machine

/-! ### Stage 3 (R76) -/

/-- R76: the division by 2^16 is a floor. -/
theorem scaleRange_floor (b : Bank) (d : Int) :
    65536 * scaleRange b d ≤ d * b.k + 32768 ∧ d * b.k + 32768 < 65536 * (scaleRange b d + 1) := by
  unfold scaleRange
  omega

/-- R76: with d and K within their ranges, the product's bounds bound the scaled range. -/
theorem scaleRange_mem (b : Bank) {d : Int} (h0 : 0 ≤ d) (hd : d ≤ 8421376) (hk : b.k ≤ 1700000) :
    0 ≤ scaleRange b d ∧ scaleRange b d ≤ 218450000 := by
  have hlo : 0 ≤ d * b.k := mul_nonneg h0 (Int.natCast_nonneg _)
  have hhi : d * b.k ≤ 8421376 * 1700000 := mul_le_mul hd (by exact_mod_cast hk) (Int.natCast_nonneg _) (by norm_num)
  unfold scaleRange
  omega

/-! ### Stage 4 (R77, R78) -/

/-- R77: the part `f` of 64 of a difference `d`, rounded half up, lies between 0 and `d`: it is the part `1024 f` of 65536. -/
theorem walkInterpolation_mem {d f : Int} (h0 : 0 ≤ f) (hf : f < 64) :
    min 0 d ≤ (d * f + 32) / 64 ∧ (d * f + 32) / 64 ≤ max 0 d := by
  have hscale : (d * (f * 1024) + 32768) / 65536 = (d * f + 32) / 64 := by
    rw [← mul_assoc]
    omega
  rw [← hscale]
  exact interpolation_mem (by omega) (by omega)

/-- R77: below amplitude 4032 the walk interpolates between two neighbouring entries. -/
theorem walkAt_of_lt (b : Bank) {a : Nat} (h : a < 4032) :
    walkAt b a = b.walk.getD (a / 64) 0 +
      ((b.walk.getD (a / 64 + 1) 0 - b.walk.getD (a / 64) 0) * ((a % 64 : Nat) : Int) + 32) / 64 :=
  if_neg (by omega)

/-- R78: from amplitude 4032 on, the walk is the last entry. -/
theorem walkAt_of_le (b : Bank) {a : Nat} (h : 4032 ≤ a) : walkAt b a = b.walk.getD 63 0 := if_pos h

/-- R77: an interpolated walk lies between its two entries. -/
theorem walkAt_mem (b : Bank) {a : Nat} (h : a < 4032) :
    min (b.walk.getD (a / 64) 0) (b.walk.getD (a / 64 + 1) 0) ≤ walkAt b a ∧
      walkAt b a ≤ max (b.walk.getD (a / 64) 0) (b.walk.getD (a / 64 + 1) 0) := by
  have hmem := walkInterpolation_mem (f := ((a % 64 : Nat) : Int))
    (d := b.walk.getD (a / 64 + 1) 0 - b.walk.getD (a / 64) 0) (by omega) (by omega)
  rw [walkAt_of_lt b h]
  omega

/-- R77: on an entry's own amplitude the walk is that entry. -/
theorem walkAt_of_aligned (b : Bank) {a : Nat} (h : a < 4032) (ha : a % 64 = 0) : walkAt b a = b.walk.getD (a / 64) 0 := by
  simp [walkAt_of_lt b h, ha]

/-- R72: an entry of a table of 16-bit values, or the 0 that stands for a missing one, is a 16-bit value. -/
theorem walkEntry_mem {b : Bank} (hw : ∀ w ∈ b.walk, -32768 ≤ w ∧ w ≤ 32767) (i : Nat) :
    -32768 ≤ b.walk.getD i 0 ∧ b.walk.getD i 0 ≤ 32767 := by
  by_cases hi : i < b.walk.length
  · rw [List.getD_eq_getElem _ _ hi]
    exact hw _ (List.getElem_mem hi)
  · rw [List.getD_eq_default _ _ (by omega)]
    norm_num

/-- R77, R78: a walk from 16-bit entries is a 16-bit value. -/
theorem walkAt_range {b : Bank} (hw : ∀ w ∈ b.walk, -32768 ≤ w ∧ w ≤ 32767) (a : Nat) :
    -32768 ≤ walkAt b a ∧ walkAt b a ≤ 32767 := by
  rcases lt_or_ge a 4032 with h | h
  · have hmem := walkAt_mem b h
    have h0 := walkEntry_mem hw (a / 64)
    have h1 := walkEntry_mem hw (a / 64 + 1)
    omega
  · rw [walkAt_of_le b h]
    exact walkEntry_mem hw 63

/-! ### The conversion (R74, R75, R79) -/

/-- R75: the conversion stops exactly below the zero time. -/
theorem rangeOf_eq_none_iff (b : Bank) (te tFire : Timestamp) (a : Nat) :
    rangeOf b te tFire a = none ↔ ((te - tFire).toNat : Int) < b.z0 := by
  simp [rangeOf, zeroCorrected, timeOfFlight]

/-- R79: from the zero time on, the range is the scaled range less the walk. -/
theorem rangeOf_of_le (b : Bank) {te tFire : Timestamp} (h : b.z0 ≤ ((te - tFire).toNat : Int)) (a : Nat) :
    rangeOf b te tFire a = some (scaleRange b ((te - tFire).toNat - b.z0) - walkAt b a) :=
  if_neg (by simpa [zeroCorrected, timeOfFlight] using h)

/-- R79: the bounds of a range, from those of its scaled range and its walk. -/
theorem rangeOf_mem {b : Bank} {te tFire : Timestamp} {a : Nat} {r : Int} (hr : rangeOf b te tFire a = some r)
    (htof : (te - tFire).toNat ≤ 2 ^ 23) (hk : b.k ≤ 1700000) (hz : -32768 ≤ b.z0)
    (hw : ∀ w ∈ b.walk, -32768 ≤ w ∧ w ≤ 32767) : -32767 ≤ r ∧ r ≤ 218482768 := by
  have hle : b.z0 ≤ ((te - tFire).toNat : Int) := by
    by_contra hlt
    simp [(rangeOf_eq_none_iff b te tFire a).mpr (not_le.mp hlt)] at hr
  obtain rfl := Option.some.inj ((rangeOf_of_le b hle a).symm.trans hr)
  have hscaled := scaleRange_mem b (d := (te - tFire).toNat - b.z0) (by omega) (by omega) hk
  have hwalk := walkAt_range hw a
  omega

/-- Settles O23: stage by stage, the equations and bounds of the lemmas above. -/
theorem rangesStayInBounds : Obligations.RangesStayInBounds := by
  refine fun b => ⟨scaleRange_floor b, fun a h => ?_, fun a h => walkAt_of_le b h, fun te tFire a => ?_⟩
  · obtain ⟨hlo, hhi⟩ := walkAt_mem b h
    exact ⟨walkAt_of_lt b h, hlo, hhi, walkAt_of_aligned b h⟩
  · exact ⟨rangeOf_eq_none_iff b te tFire a, fun h => rangeOf_of_le b h a, fun r => rangeOf_mem⟩

end Sys2Proof.Machine
end

section
/-! PROOFS. The choice of a pulse's echoes by its output policy (O24). -/

namespace Sys2Proof.Machine

/-! ### The order of strength (R89) -/

/-- R89: tests 1 to 3 as comparisons of numbers. -/
theorem strongerThan_iff (tie : TiePref) (x y : Placed) :
    strongerThan tie x y = true ↔
      y.2.amplitude.toNat < x.2.amplitude.toNat ∨
        x.2.amplitude.toNat = y.2.amplitude.toNat ∧
          (x.2.width.toNat < y.2.width.toNat ∨
            x.2.width.toNat = y.2.width.toNat ∧
              (tie = .near ∧ x.2.range < y.2.range ∨ tie = .far ∧ y.2.range < x.2.range)) := by
  cases tie <;> simp [strongerThan, BitVec.toNat_inj]

theorem strongerThan_self (tie : TiePref) (x : Placed) : strongerThan tie x x = false := by
  simp [← Bool.not_eq_true, strongerThan_iff]

theorem strongerThan_asymm {tie : TiePref} {x y : Placed} (h : strongerThan tie x y = true) :
    strongerThan tie y x = false := by
  rw [← Bool.not_eq_true]
  cases tie <;> simp only [strongerThan_iff, reduceCtorEq, true_and, false_and, or_false, false_or] at h ⊢ <;> omega

/-- Strength is a weak order: "not stronger than" is transitive. -/
theorem strongerThan_false_trans {tie : TiePref} {x y z : Placed} (h : strongerThan tie x y = false)
    (k : strongerThan tie y z = false) : strongerThan tie x z = false := by
  rw [← Bool.not_eq_true] at h k ⊢
  cases tie <;> simp only [strongerThan_iff, reduceCtorEq, true_and, false_and, or_false, false_or] at h k ⊢ <;> omega

/-- R89, test 4: which of two positions is kept among equals. -/
def TiePref.keeps (tie : TiePref) (i j : Nat) : Prop :=
  match tie with
  | .near => i ≤ j
  | .far => j ≤ i

/-- R89: what the strongest member of a list is: one that none exceeds, the first or the last of its equals. -/
structure IsStrongest (tie : TiePref) (a : List Placed) (x : Placed) : Prop where
  mem : x ∈ a
  unexceeded : ∀ y ∈ a, strongerThan tie y x = false
  kept : a.Pairwise (fun u v => u.1 < v.1) → ∀ y ∈ a, strongerThan tie x y = false → tie.keeps x.1 y.1

/-- One more member at the front displaces the strongest of the rest. -/
theorem IsStrongest.displace {tie : TiePref} {rest : List Placed} {x y : Placed} (h : IsStrongest tie rest y)
    (hyx : strongerThan tie y x = false) (hkeeps : tie = .near ∨ strongerThan tie x y = true) :
    IsStrongest tie (x :: rest) x where
  mem := List.mem_cons_self
  unexceeded := List.forall_mem_cons.mpr
    ⟨strongerThan_self tie x, fun z hz => strongerThan_false_trans (h.unexceeded z hz) hyx⟩
  kept hp := List.forall_mem_cons.mpr ⟨fun _ => by cases tie <;> exact le_rfl, fun z hz hxz => by
    rcases hkeeps with rfl | hxy
    · exact (List.rel_of_pairwise_cons hp hz).le
    · simp [strongerThan_false_trans hxz (h.unexceeded z hz)] at hxy⟩

/-- The strongest of the rest stays so behind one more member at the front. -/
theorem IsStrongest.stay {tie : TiePref} {rest : List Placed} {x y : Placed} (h : IsStrongest tie rest y)
    (hxy : strongerThan tie x y = false) (hkeeps : tie = .far ∨ strongerThan tie y x = true) :
    IsStrongest tie (x :: rest) y where
  mem := List.mem_cons_of_mem x h.mem
  unexceeded := List.forall_mem_cons.mpr ⟨hxy, h.unexceeded⟩
  kept hp := List.forall_mem_cons.mpr ⟨fun hyx => by
    rcases hkeeps with rfl | hlt
    · exact (List.rel_of_pairwise_cons hp h.mem).le
    · simp [hyx] at hlt, h.kept hp.of_cons⟩

/-- R89: the scan from the back keeps the strongest of what it has seen. -/
theorem strongest_spec (tie : TiePref) {a : List Placed} (h : a ≠ []) :
    ∃ x, strongest tie a = some x ∧ IsStrongest tie a x := by
  induction a with
  | nil => exact absurd rfl h
  | cons x rest ih =>
    rcases eq_or_ne rest [] with rfl | hrest
    · refine ⟨x, rfl, List.mem_cons_self, by simp [strongerThan_self], fun _ y hy _ => ?_⟩
      obtain rfl := List.mem_singleton.mp hy
      cases tie <;> exact le_rfl
    · obtain ⟨y, hy, hmax⟩ := ih hrest
      simp only [strongest, hy]
      cases tie with
      | near =>
        cases hyx : strongerThan .near y x with
        | true => exact ⟨y, rfl, hmax.stay (strongerThan_asymm hyx) (.inr hyx)⟩
        | false => exact ⟨x, rfl, hmax.displace hyx (.inl rfl)⟩
      | far =>
        cases hxy : strongerThan .far x y with
        | true => exact ⟨x, rfl, hmax.displace (strongerThan_asymm hxy) (.inr hxy)⟩
        | false => exact ⟨y, rfl, hmax.stay hxy (.inl rfl)⟩

/-! ### The output policies (R84, R86 to R89) -/

/-- R86: a set within the limit is kept whole; a larger one keeps its first `m - 1` members and its last. -/
theorem chooseAll_cases {m : Nat} (hm : 1 ≤ m) (a : List Placed) :
    (a.length ≤ m ∧ chooseAll m a = a) ∨
      ∃ init z, a = init ++ [z] ∧ m ≤ init.length ∧ chooseAll m a = init.take (m - 1) ++ [z] := by
  rcases Nat.lt_or_ge m a.length with hlt | hle
  · rcases List.eq_nil_or_concat' a with rfl | ⟨init, z, rfl⟩
    · simp at hlt
    · have hinit : m ≤ init.length := by simpa [Nat.lt_succ_iff] using hlt
      refine .inr ⟨init, z, rfl, hinit, (if_neg (Nat.not_le.mpr hlt)).trans ?_⟩
      simp [List.take_append_of_le_length (show m - 1 ≤ init.length by omega)]
  · exact .inl ⟨hle, if_pos hle⟩

theorem chooseAll_sublist {m : Nat} (hm : 1 ≤ m) (a : List Placed) : (chooseAll m a).Sublist a := by
  rcases chooseAll_cases hm a with ⟨_, h⟩ | ⟨init, z, rfl, _, h⟩ <;> rw [h]
  exact (List.take_sublist _ init).append (List.Sublist.refl [z])

theorem chooseAll_length {m : Nat} (hm : 1 ≤ m) (a : List Placed) : (chooseAll m a).length = min m a.length := by
  rcases chooseAll_cases hm a with ⟨hle, h⟩ | ⟨init, z, rfl, hle, h⟩
  · rw [h, min_eq_right hle]
  · simp only [h, List.length_append, List.length_take, List.length_singleton]
    omega

theorem chooseAll_getLast? {m : Nat} (hm : 1 ≤ m) (a : List Placed) : (chooseAll m a).getLast? = a.getLast? := by
  rcases chooseAll_cases hm a with ⟨_, h⟩ | ⟨init, z, rfl, _, h⟩ <;> simp [h]

theorem chooseAll_head? {m : Nat} (hm : 2 ≤ m) (a : List Placed) : (chooseAll m a).head? = a.head? := by
  have hpos : m - 1 ≠ 0 := by omega
  rcases chooseAll_cases (one_le_two.trans hm) a with ⟨_, h⟩ | ⟨init, z, rfl, _, h⟩ <;> simp [h, List.head?_take, hpos]

/-- R88: FIRST_LAST keeps of a set of two or more the first and the last. -/
theorem chooseEchoes_firstLast_of_two {p : PolicyEntry} (hp : p.policy = .firstLast) {a : List Placed} (h : 2 ≤ a.length) :
    chooseEchoes p a = a.take 1 ++ a.getLast?.toList := by
  rw [chooseEchoes, hp, List.take_one]
  exact if_neg (by omega)

theorem chooseEchoes_all {p : PolicyEntry} (hp : p.policy = .all) (a : List Placed) :
    chooseEchoes p a = chooseAll (max 1 p.outMax) a := by
  rw [chooseEchoes, hp]; rfl

theorem chooseEchoes_first {p : PolicyEntry} (hp : p.policy = .first) (a : List Placed) : chooseEchoes p a = a.take 1 := by
  rw [chooseEchoes, hp, List.take_one]

theorem chooseEchoes_last {p : PolicyEntry} (hp : p.policy = .last) (a : List Placed) :
    chooseEchoes p a = a.getLast?.toList := by
  rw [chooseEchoes, hp]

theorem chooseEchoes_strongest {p : PolicyEntry} (hp : p.policy = .strongest) (a : List Placed) :
    chooseEchoes p a = (strongest p.tiePref a).toList := by
  rw [chooseEchoes, hp]

/-- R87: LAST chooses as ALL does under a limit of one. -/
theorem chooseEchoes_last_eq_chooseAll {p : PolicyEntry} (hp : p.policy = .last) (a : List Placed) :
    chooseEchoes p a = chooseAll 1 a := by
  match a with
  | [] | [_] | _ :: _ :: _ => simp [chooseEchoes, hp, chooseAll]

/-- R88: FIRST_LAST chooses as ALL does under a limit of two. -/
theorem chooseEchoes_firstLast {p : PolicyEntry} (hp : p.policy = .firstLast) (a : List Placed) :
    chooseEchoes p a = chooseAll 2 a := by
  match a with
  | [] | [_] | [_, _] | _ :: _ :: _ :: _ => simp [chooseEchoes, hp, chooseAll]

/-- R84, R86 to R89: every policy chooses in the order of the acceptable set. -/
theorem chooseEchoes_sublist (p : PolicyEntry) (a : List Placed) : (chooseEchoes p a).Sublist a := by
  cases hp : p.policy with
  | all => exact chooseEchoes_all hp a ▸ chooseAll_sublist (le_max_left 1 _) a
  | first => exact chooseEchoes_first hp a ▸ List.take_sublist 1 a
  | last => exact chooseEchoes_last_eq_chooseAll hp a ▸ chooseAll_sublist le_rfl a
  | firstLast => exact chooseEchoes_firstLast hp a ▸ chooseAll_sublist one_le_two a
  | strongest =>
    rw [chooseEchoes_strongest hp]
    rcases eq_or_ne a [] with rfl | ha
    · exact List.Sublist.refl []
    · obtain ⟨x, hx, hmax⟩ := strongest_spec p.tiePref ha
      simpa [hx] using hmax.mem

/-- Every policy chooses an echo from a set that has one. -/
theorem chooseEchoes_ne_nil (p : PolicyEntry) {a : List Placed} (h : a ≠ []) : chooseEchoes p a ≠ [] := by
  have hlen := List.length_pos_iff.mpr h
  rw [← List.length_pos_iff]
  cases hp : p.policy with
  | all => rw [chooseEchoes_all hp, chooseAll_length (le_max_left 1 _)]; omega
  | first => rw [chooseEchoes_first hp, List.length_take]; omega
  | last => rw [chooseEchoes_last_eq_chooseAll hp, chooseAll_length le_rfl]; omega
  | firstLast => rw [chooseEchoes_firstLast hp, chooseAll_length one_le_two]; omega
  | strongest =>
    obtain ⟨x, hx, _⟩ := strongest_spec p.tiePref h
    simp [chooseEchoes_strongest hp, hx]

/-- Settles O24: the limits are lengths under `chooseAll`, which ALL and FIRST_LAST share; STRONGEST is the scan's. -/
theorem policiesChooseFromTheAcceptableSet : Obligations.PoliciesChooseFromTheAcceptableSet := by
  refine ⟨fun tie x y => ?_, fun p a => ⟨chooseEchoes_sublist p a, fun hp => ?_, fun hp => ?_, fun hp hle => ?_,
    fun hp hlt => ?_, fun hp hle => ?_, fun hp => chooseEchoes_firstLast_of_two hp, fun hp => chooseEchoes_first hp a,
    fun hp => chooseEchoes_last hp a, fun hp => chooseEchoes_strongest hp a, ?_, ?_⟩, fun tie a ha => ?_⟩
  · rw [strongerThan_iff, BitVec.toNat_inj, BitVec.toNat_inj]
  · rw [chooseEchoes_all hp, chooseAll_length (le_max_left 1 _)]
  · rw [chooseEchoes_firstLast hp, chooseAll_length one_le_two]
  · exact (chooseEchoes_all hp a).trans (if_pos hle)
  · exact (chooseEchoes_all hp a).trans (if_neg (Nat.not_le.mpr hlt))
  · exact (chooseEchoes_firstLast hp a).trans (if_pos (by omega))
  · rintro (hp | hp | hp)
    · rw [chooseEchoes_all hp, chooseAll_getLast? (le_max_left 1 _)]
    · rw [chooseEchoes_firstLast hp, chooseAll_getLast? one_le_two]
    · rw [chooseEchoes_last_eq_chooseAll hp, chooseAll_getLast? le_rfl]
  · rintro (hp | hp | ⟨hp, hm⟩)
    · rw [chooseEchoes_firstLast hp, chooseAll_head? le_rfl]
    · rw [chooseEchoes_first hp, List.head?_take]; rfl
    · rw [chooseEchoes_all hp, chooseAll_head? (hm.trans (le_max_right 1 _))]
  · obtain ⟨x, hx, hmax⟩ := strongest_spec tie ha
    exact ⟨x, hmax.mem, hx, hmax.unexceeded, by cases tie <;> exact hmax.kept⟩

end Sys2Proof.Machine
end

section
/-! PROOFS. The records of a closed pulse and its sweep test (O25). -/

namespace Sys2Proof.Machine

/-! ### Positions in the acceptable set (R85, R91) -/

theorem withPositions_eq_zipWith (a : List EchoEntry) :
    withPositions a = (List.range a.length).zipWith (fun i e => (i + 1, e)) a := by
  refine List.ext_getElem (by simp) fun i _ _ => ?_
  simp [withPositions, Nat.add_comm]

@[simp] theorem withPositions_eq_nil_iff (a : List EchoEntry) : withPositions a = [] ↔ a = [] := by
  rw [← List.length_eq_zero_iff, withPositions_length, List.length_eq_zero_iff]

/-- R91: an echo with its position stands there in the acceptable set. -/
theorem mem_withPositions_iff {a : List EchoEntry} {x : Placed} :
    x ∈ withPositions a ↔ 1 ≤ x.1 ∧ a[x.1 - 1]? = some x.2 := by
  obtain ⟨i, e⟩ := x
  simp [withPositions, List.mk_mem_zipIdx_iff_le_and_getElem?_sub]

/-- R91: positions grow along the acceptable set. -/
theorem withPositions_pairwise (a : List EchoEntry) : (withPositions a).Pairwise fun u v => u.1 < v.1 := by
  rw [← List.pairwise_map (f := Prod.fst), show (withPositions a).map Prod.fst = List.range' 1 a.length by
    simp [withPositions, List.map_map, Function.comp_def]]
  exact List.pairwise_lt_range'

/-! ### The records of a closed pulse (R83, R90 to R94) -/

section
variable {policy : PolicyEntry} {p : Pulse}

/-- R92: no acceptable echo and no MissReport yield nothing. -/
theorem pulseRecords_of_silent (h : acceptableSet policy p.echoes = []) (hm : policy.missReport = false) (evicted : Bool) :
    pulseRecords policy p evicted = [] := by
  simp [pulseRecords, h, hm]

/-- R92: no acceptable echo yields a MISS record where MissReport asks for one. -/
theorem pulseRecords_of_miss (h : acceptableSet policy p.echoes = []) (hm : policy.missReport = true) (evicted : Bool) :
    pulseRecords policy p evicted = [p.baseRecord evicted false 0] := by
  simp [pulseRecords, h, hm]

/-- The echoes chosen of a closed pulse, with their positions. -/
def Pulse.chosen (policy : PolicyEntry) (p : Pulse) : List Placed :=
  chooseEchoes policy (withPositions (acceptableSet policy p.echoes))

/-- R90, R91, R93: acceptable echoes yield a record for each one chosen. -/
theorem pulseRecords_of_acceptable (h : acceptableSet policy p.echoes ≠ []) (evicted : Bool) :
    pulseRecords policy p evicted =
      (p.chosen policy).map
        (p.baseRecord evicted (decide ((p.chosen policy).length < (acceptableSet policy p.echoes).length))
          (acceptableSet policy p.echoes).length).ofEcho := by
  simp only [pulseRecords, List.isEmpty_iff, withPositions_eq_nil_iff, withPositions_length, if_neg h]
  rfl

/-- R93, R94: every record of a pulse carries the fields of the pulse, be it a MISS or the record of an echo. -/
theorem mem_pulseRecords {evicted : Bool} {r : PointRecord} (h : r ∈ pulseRecords policy p evicted) :
    ∃ trimmed count, r = p.baseRecord evicted trimmed count ∨ ∃ x, r = (p.baseRecord evicted trimmed count).ofEcho x := by
  by_cases ha : acceptableSet policy p.echoes = []
  · cases hm : policy.missReport with
    | false => simp [pulseRecords_of_silent ha hm] at h
    | true =>
      rw [pulseRecords_of_miss ha hm] at h
      exact ⟨_, _, .inl (List.mem_singleton.mp h)⟩
  · rw [pulseRecords_of_acceptable ha] at h
    obtain ⟨x, _, rfl⟩ := List.mem_map.mp h
    exact ⟨_, _, .inr ⟨x, rfl⟩⟩

theorem Pulse.chosen_sublist (policy : PolicyEntry) (p : Pulse) :
    (p.chosen policy).Sublist (withPositions (acceptableSet policy p.echoes)) :=
  chooseEchoes_sublist policy _

theorem Pulse.chosen_ne_nil (h : acceptableSet policy p.echoes ≠ []) : p.chosen policy ≠ [] :=
  chooseEchoes_ne_nil policy ((withPositions_eq_nil_iff _).not.mpr h)

/-- R91: the records stand in the order of the echoes chosen, under their positions. -/
theorem pulseRecords_echoIndex (h : acceptableSet policy p.echoes ≠ []) (evicted : Bool) :
    (pulseRecords policy p evicted).map PointRecord.echoIndex = (p.chosen policy).map Prod.fst := by
  rw [pulseRecords_of_acceptable h, List.map_map]
  rfl

theorem pulseRecords_length (h : acceptableSet policy p.echoes ≠ []) (evicted : Bool) :
    (pulseRecords policy p evicted).length = (p.chosen policy).length := by
  rw [pulseRecords_of_acceptable h, List.length_map]

theorem pulseRecords_pairwise (h : acceptableSet policy p.echoes ≠ []) (evicted : Bool) :
    (pulseRecords policy p evicted).Pairwise fun u v => u.echoIndex < v.echoIndex := by
  rw [pulseRecords_of_acceptable h, List.pairwise_map]
  exact (withPositions_pairwise _).sublist (p.chosen_sublist policy)

/-- R90, R91, R93: the record of a chosen echo names its place in the acceptable set, which holds that echo. -/
theorem mem_pulseRecords_of_acceptable (h : acceptableSet policy p.echoes ≠ []) {evicted : Bool} {r : PointRecord}
    (hr : r ∈ pulseRecords policy p evicted) :
    ∃ i e, 1 ≤ i ∧ (acceptableSet policy p.echoes)[i - 1]? = some e ∧
      r = (p.baseRecord evicted
        (decide ((pulseRecords policy p evicted).length < (acceptableSet policy p.echoes).length))
        (acceptableSet policy p.echoes).length).ofEcho (i, e) := by
  rw [pulseRecords_length h]
  rw [pulseRecords_of_acceptable h] at hr
  obtain ⟨⟨i, e⟩, hx, rfl⟩ := List.mem_map.mp hr
  obtain ⟨hi, he⟩ := mem_withPositions_iff.mp ((p.chosen_sublist policy).subset hx)
  exact ⟨i, e, hi, he, rfl⟩

end

/-! ### The sweep test (R97, R159) -/

/-- R159: a sweep change rearms a trigger that has hit, and raises TRIG_HIT again for an alert not read. -/
theorem State.sweepChange_eq (s : State) :
    s.sweepChange =
      { s with
        tru :=
          if s.tru.config.rearm = true ∧ (s.tru.state = .l1Hit ∨ s.tru.state = .l2Hit) then
            { s.tru with state := .waitL1, window := 0 }
          else s.tru
        flags := if s.tru.alertUnread then s.flags ||| Event.trigHit.bit else s.flags } := by
  unfold State.sweepChange
  simp only [Bool.and_eq_true, Bool.or_eq_true, decide_eq_true_eq]
  by_cases hrearm : s.tru.config.rearm = true ∧ (s.tru.state = .l1Hit ∨ s.tru.state = .l2Hit) <;>
    cases hunread : s.tru.alertUnread <;> simp [hrearm, hunread, State.onTru, State.raise, State.setFlags]

/-- R97: a pulse of the sweep last seen does nothing at the test. -/
theorem State.sweepTest_of_same {s : State} {p : Pulse} (h : s.ptf.lastSweep = some p.sweep) : s.sweepTest p = s :=
  if_pos h

/-- R97: a pulse of another sweep offers its marker, makes the sweep change and sets LastSweep. -/
theorem State.sweepTest_of_new {s : State} {p : Pulse} (h : s.ptf.lastSweep ≠ some p.sweep) :
    s.sweepTest p = { (s.offerMarker (.swp p.sweep p.seq p.facet)).sweepChange with ptf := { lastSweep := some p.sweep } } :=
  if_neg h

/-- Settles O25: the cases of R92 by the acceptable set, and the sweep test by its equations. -/
theorem closedPulseYieldsItsRecords : Obligations.ClosedPulseYieldsItsRecords := by
  refine ⟨fun policy p evicted => ⟨fun ha hm => pulseRecords_of_silent ha hm evicted,
    fun ha hm => ⟨_, pulseRecords_of_miss ha hm evicted, rfl, rfl, rfl, rfl, rfl⟩,
    fun ha => ⟨pulseRecords_echoIndex ha evicted, withPositions_eq_zipWith _, pulseRecords_length ha evicted, ?_,
      pulseRecords_pairwise ha evicted, fun r hr => ?_⟩, fun r hr => ?_⟩,
    fun s p => ⟨State.sweepTest_of_same, fun h => ?_⟩⟩
  · rw [pulseRecords_length ha]
    exact List.length_pos_iff.mpr (Pulse.chosen_ne_nil ha)
  · obtain ⟨i, e, hi, he, rfl⟩ := mem_pulseRecords_of_acceptable ha hr
    have hle : i - 1 < (acceptableSet policy p.echoes).length := (List.getElem?_eq_some_iff.mp he).1
    exact ⟨rfl, rfl, hi, Nat.le_of_pred_lt hle, decide_eq_true_iff, e, he, rfl, rfl⟩
  · obtain ⟨trimmed, count, rfl | ⟨x, rfl⟩⟩ := mem_pulseRecords hr <;>
      exact ⟨rfl, rfl, rfl, rfl, rfl, rfl, rfl, rfl, rfl, rfl, rfl, rfl⟩
  · intro marked
    have htru : marked.tru = s.tru := by simp [marked]
    rw [State.sweepTest_of_new h, State.sweepChange_eq]
    simp only [State.offerMarker, ← htru]
    rfl

end Sys2Proof.Machine
end

section
/-! PROOFS. Numbers, codes and the layouts of records, entries, payloads and frames (O26). -/

namespace Sys2Proof

/-- R201: a byte more at the end is the least significant. -/
theorem beNat_append_singleton (bs : List Byte) (b : Byte) : beNat (bs ++ [b]) = 256 * beNat bs + b.toNat := by
  simp [beNat, Nat.mul_comm]

@[simp] theorem beIntBytes_length (n : Nat) (v : Int) : (beIntBytes n v).length = n := beBytes_length n _

/-- Three bytes hold a signed number modulo 2^24. -/
theorem beIntBytes_three (v : Int) : beIntBytes 3 v = beBytes 3 (v % 2 ^ 24).toNat := rfl

end Sys2Proof

namespace Sys2Proof.Machine

/-! ### Codes (sections 6.1, 9.6, 11.4) -/

theorem flagOf_eq_getElem? (n : Nat) : flagOf n = [false, true][n]? := by
  rcases n with _ | _ | n <;> rfl

theorem protectModeOf_eq_getElem? (n : Nat) : protectModeOf n = [ProtectMode.openMode, .line, .frozen][n]? := by
  rcases n with _ | _ | _ | n <;> rfl

theorem readBankOf_eq_getElem? (n : Nat) : readBankOf n = [ReadBank.staged, .active][n]? := by
  rcases n with _ | _ | n <;> rfl

theorem tableOf_eq_getElem? (n : Nat) : tableOf n = allTables[n]? := by
  rcases n with _ | _ | _ | _ | _ | _ | _ | _ | n <;> rfl

/-- Section 9.6: the events in the order of their ids. -/
def Event.listed : List Event :=
  [.reset, .streamStarted, .streamStopped, .resync, .linkCrc, .frameReject, .linkLost, .mirrorHold, .azHold,
    .indexSlip, .angleFault, .queueEvict, .echoOrphan, .echoAmbiguous, .echoOverflow, .commitDone, .exposureMissed,
    .tileTimeout, .tileFailed, .tileDropped, .trigL1, .trigHit, .captureFull, .outOverrun]

theorem Event.listed_id (e : Event) : Event.listed[e.id]? = some e := by cases e <;> rfl

/-- Section 9.6: the id of an event is its place in the list. -/
theorem Event.listed_eq_some_iff (e : Event) (n : Nat) : Event.listed[n]? = some e ↔ n = e.id := by
  refine ⟨fun h => ?_, fun h => h ▸ e.listed_id⟩
  have hids : (List.range 24)[n]? = some e.id := by
    rw [show List.range 24 = Event.listed.map Event.id from rfl, List.getElem?_map, h]
    rfl
  exact (List.getElem?_eq_some_iff.mp hids).2 ▸ (List.getElem_range _).symm

/-- R177: the set of one event holds the bit of its id alone. -/
theorem Event.bit_getLsbD (e : Event) (n : Nat) : e.bit.getLsbD n = true ↔ Event.listed[n]? = some e := by
  rw [Event.listed_eq_some_iff]
  have hid : e.id < 24 := by cases e <;> decide
  simp only [Event.bit, BitVec.getLsbD_shiftLeft, BitVec.getLsbD_one, Bool.and_eq_true, Bool.not_eq_true',
    decide_eq_true_eq, decide_eq_false_iff_not]
  omega

/-! ### Bytes of flags (R169, section 11.3) -/

theorem toNat_ofBoolListLE_cons (b : Bool) (bs : List Bool) :
    (BitVec.ofBoolListLE (b :: bs)).toNat = b.toNat + 2 * (BitVec.ofBoolListLE bs).toNat := by
  rw [BitVec.ofBoolListLE, BitVec.toNat_concat]
  omega

/-- The number whose bits are a list's, as the sum of their values. -/
theorem sum_bits_eq (bs : List Bool) (k : Nat) :
    ((bs.zipIdx k).map fun p => if p.1 then 2 ^ p.2 else 0).sum = 2 ^ k * (BitVec.ofBoolListLE bs).toNat := by
  induction bs generalizing k with
  | nil => simp [BitVec.ofBoolListLE]
  | cons b bs ih =>
    rw [List.zipIdx_cons, List.map_cons, List.sum_cons, ih, toNat_ofBoolListLE_cons, pow_succ]
    cases b <;> simp <;> ring

/-- A byte made of a list of bits shows each at its place. -/
theorem ofBoolListLE_byte_getLsbD (bs : List Bool) {n : Nat} (h : n < 8) :
    (BitVec.ofNat 8 (BitVec.ofBoolListLE bs).toNat).getLsbD n = bs.getD n false := by
  simp [BitVec.getLsbD_ofBoolListLE, h]

/-- R169: bit n of the summary byte is the flag that entry n of the select list names; 31 names none. -/
theorem summaryOf_getLsbD (select : List Nat) (flags : EventSet) {n : Nat} (h : n < 8) :
    (summaryOf select flags).getLsbD n = flags.getLsbD (select.getD n 31) := by
  have hbits : summaryOf select flags = BitVec.ofNat 8 (BitVec.ofBoolListLE (select.map flags.getLsbD)).toNat := by
    rw [summaryOf, ← one_mul (BitVec.toNat _), ← pow_zero 2, ← sum_bits_eq, List.zipIdx_map, List.map_map]
    rfl
  have hnone : flags.getLsbD 31 = false := BitVec.getLsbD_of_ge flags 31 (by decide)
  rw [hbits, ofBoolListLE_byte_getLsbD _ h, ← hnone, List.getD_map]

/-- Section 11.3: the flags of a point record at their bits. -/
theorem PointRecord.flagsByte_getLsbD (r : PointRecord) {n : Nat} (h : n < 8) :
    r.flagsByte.getLsbD n =
      [r.miss, r.trimmed, r.echoOverflow, r.evicted, r.elevHeld, r.azHeld, r.mark, r.hasColour].getD n false := by
  rw [← ofBoolListLE_byte_getLsbD _ h]
  refine congrArg (fun v => (byte v).getLsbD n) ?_
  simp only [toNat_ofBoolListLE_cons, show (BitVec.ofBoolListLE []).toNat = 0 from rfl]
  ring

/-! ### Point records and table entries (sections 11.3, 11.5, R202) -/

@[simp] theorem colourBytes_length (c : Option Colour) : (colourBytes c).length = 5 := by
  cases c <;> simp [colourBytes]

@[simp] theorem PointRecord.bytes_length (r : PointRecord) : r.bytes.length = 32 := by
  simp [PointRecord.bytes]

@[simp] theorem entryBytes_length (t : TableId) (e : EntryOf t) : (entryBytes t e).length = t.entryLength := by
  cases t <;> simp [entryBytes, TableId.entryLength]

/-! ### Payloads and frames (sections 11.2, 11.4, R141, R168, R204) -/

/-- R204: every payload has the length that its frame's header gives. -/
@[simp] theorem Payload.bytes_length (p : Payload) : p.bytes.length = p.size := by
  cases p with
  | pts rs => simp [Payload.bytes, Payload.size, List.length_flatMap, Nat.mul_comm]
  | swp sweep seq facet => simp [Payload.bytes, Payload.size]
  | rsy reason removed last => cases last <;> simp [Payload.bytes, Payload.size]
  | exp x => simp [Payload.bytes, Payload.size]
  | tlr number outcome late record cols rows => cases record <;> simp [Payload.bytes, Payload.size]
  | rsp a => exact Nat.add_comm _ 4

/-- R168: a frame is its payload and 8 bytes. -/
@[simp] theorem OutFrame.bytes_length (f : OutFrame) : f.bytes.length = f.payload.frameLength := by
  simp only [OutFrame.bytes, headerBytes, Payload.frameLength, List.length_append, List.length_cons, List.length_nil,
    beBytes_length, Payload.bytes_length]
  omega

/-- Section 11.2: the header with the length of the payload it announces. -/
theorem headerBytes_eq (p : Payload) (summary : Byte) (gap : Bool) :
    headerBytes p summary gap = [p.kind, summary, if gap then 1 else 0, 0] ++ beBytes 2 p.bytes.length := by
  rw [Payload.bytes_length]
  rfl

/-- R54: an RSY says whether a pulse was closed, and which last; zeros where none was. -/
theorem Payload.rsy_bytes (reason : ResyncReason) (removed : Nat) (last : Option (BitVec 32)) :
    (Payload.rsy reason removed last).bytes =
      [BitVec.ofNat 8 reason.code, BitVec.ofNat 8 removed, if last.isSome then 1 else 0, 0] ++
        beBytes 4 ((last.map BitVec.toNat).getD 0) := by
  cases last <;> rfl

/-- R141: a TLR with an exposure record carries its plan entry and station. -/
theorem Payload.tlr_bytes_of_record (number : BitVec 16) (outcome : TileOutcome) (late : Bool)
    (entry station cols rows : Nat) :
    (Payload.tlr number outcome late (some (entry, station)) cols rows).bytes =
      beBytes 2 number.toNat ++
        [BitVec.ofNat 8 outcome.code, if late then 3 else 2, BitVec.ofNat 8 entry, BitVec.ofNat 8 station,
          BitVec.ofNat 8 cols, BitVec.ofNat 8 rows] := by
  cases late <;> rfl

/-- R141, log entry 31: without an exposure record the two bytes are the free value's. -/
theorem Payload.tlr_bytes_of_no_record (number : BitVec 16) (outcome : TileOutcome) (late : Bool) (cols rows : Nat) :
    ∃ entry station : Byte,
      (Payload.tlr number outcome late none cols rows).bytes =
        beBytes 2 number.toNat ++
          [BitVec.ofNat 8 outcome.code, if late then 1 else 0, entry, station, BitVec.ofNat 8 cols,
            BitVec.ofNat 8 rows] := by
  obtain ⟨entry, station, hfree⟩ : ∃ entry station, beBytes 2 (Config.unmatchedFields number).toNat = [entry, station] :=
    ⟨_, _, rfl⟩
  refine ⟨entry, station, ?_⟩
  rw [Payload.bytes, hfree]
  cases late <;> rfl

/-- Section 11.3: the fields of a point record at their places. -/
theorem PointRecord.bytes_eq (r : PointRecord) :
    r.bytes =
      beBytes 4 r.seq.toNat ++ beBytes 5 r.tFire.toNat ++ beBytes 3 (r.elevation % 2 ^ 24).toNat ++
        beBytes 3 r.azimuth.toNat ++ beBytes 2 r.sweep.toNat ++
        [r.flagsByte, BitVec.ofNat 8 (16 * (r.echoIndex % 16) + r.echoCount % 16), BitVec.ofNat 8 (r.zone % 128)] ++
        beBytes 7 r.echoWord ++ colourBytes r.colour := by
  rw [PointRecord.bytes, beIntBytes_three, Nat.mul_comm (r.echoIndex % 16) 16]
  rfl

/-- Settles O26: numbers, codes, lengths and layouts, each by its lemma. -/
theorem layoutsHaveTheirLengths : Obligations.LayoutsHaveTheirLengths := by
  refine ⟨⟨rfl, beNat_append_singleton, fun n v => ⟨beBytes_length n v, beNat_beBytes n v⟩⟩,
    ⟨rfl, rfl, rfl, fun r => rfl, rfl, rfl, rfl, rfl, rfl, rfl, rfl, rfl,
      fun n => ⟨flagOf_eq_getElem? n, protectModeOf_eq_getElem? n, readBankOf_eq_getElem? n⟩,
      ⟨tableOf_eq_getElem?, rfl, rfl, rfl⟩, Event.bit_getLsbD⟩,
    PointRecord.bytes_length, entryBytes_length, Payload.bytes_length, fun f => ⟨f.bytes_length, ?_⟩,
    fun r => ⟨?_, fun n h => r.flagsByte_getLsbD h⟩,
    ⟨fun rs => rfl, fun sweep seq facet => rfl, Payload.rsy_bytes, fun x => rfl, Payload.tlr_bytes_of_record,
      Payload.tlr_bytes_of_no_record, fun a => rfl⟩,
    ⟨fun rs => rfl, fun sweep seq facet => rfl, fun reason removed last => rfl, fun x => rfl, fun n o l r c w => rfl,
      fun a => rfl, fun p summary gap => ?_⟩,
    fun f => ?_, fun select flags n h _ => summaryOf_getLsbD select flags h⟩
  · rw [Payload.bytes_length]
    rfl
  · rw [r.bytes_eq]
    cases hecho : r.echo <;> cases hcolour : r.colour <;> simp only [PointRecord.echoWord, hecho] <;> rfl
  · rw [frameCheck, headerBytes_eq]
  · rw [OutFrame.bytes, headerBytes_eq]

end Sys2Proof.Machine
end

section
/-! PROOFS. What a step can do to the Table Store and the Command Interpreter: a chain of moves of twelve kinds. Said once here
for the invariants of the two blocks (O34, O54, O58). -/

namespace Sys2Proof.Machine

/-! ### The view of the two blocks -/

/-- What the invariants of the Table Store and of the Command Interpreter read of a state. -/
structure StoreView where
  tbs : Tbs
  cmi : Cmi

/-- The view of a state. -/
def State.storeView (s : State) : StoreView := ⟨s.tbs, s.cmi⟩

/-- The kinds of move, each with what holds when it is made. -/
inductive StoreMove : StoreView → StoreView → Prop where
  /-- R118, R119, R121: a waiting fetch is granted. -/
  | grant {v : StoreView} {r : Reading} (h : v.cmi.reading = some r) (hd : r.done < r.count) :
    StoreMove v ⟨{ v.tbs with grants := 0 }, { v.cmi with reading := some (r.fetch v.tbs) }⟩
  /-- R119: a pipeline grant counts while a fetch waits. -/
  | count {v : StoreView} {r : Reading} (h : v.cmi.reading = some r) (hd : r.done < r.count)
    (hg : v.tbs.grants < Config.grantLimit) : StoreMove v ⟨{ v.tbs with grants := v.tbs.grants + 1 }, v.cmi⟩
  /-- R114. -/
  | switch (v : StoreView) :
    StoreMove v ⟨v.tbs.switch, { v.cmi with reading := v.cmi.reading.map Reading.sawSwitch }⟩
  /-- R109: a write keeps the number of entries. -/
  | write {v : StoreView} (t : TableId) {c : List (EntryOf t)} (h : c.length = (v.tbs.staged.table t).length) :
    StoreMove v
      ⟨{ v.tbs with staged := v.tbs.staged.setTable t c, stagedStatus := v.tbs.stagedStatus.set t .dirty }, v.cmi⟩
  /-- R111, R116: a commit or a cancel. -/
  | mark (v : StoreView) (t : TableId) {st : StagedStatus} (h : st ≠ .clean) :
    StoreMove v ⟨{ v.tbs with stagedStatus := v.tbs.stagedStatus.set t st }, v.cmi⟩
  /-- R124. -/
  | protect {v : StoreView} (p : Protection) (h : v.tbs.protection.mode ≠ .frozen) :
    StoreMove v ⟨{ v.tbs with protection := p }, v.cmi⟩
  /-- R120, R184: a TABLE_READ goes into execution. -/
  | read (v : StoreView) {r : Reading} (h : r.done = 0) (hpos : 1 ≤ r.count) (hmax : r.count ≤ 32) :
    StoreMove v ⟨v.tbs, { v.cmi with reading := some r }⟩
  /-- R121: a read with its last entry is answered. -/
  | answer {v : StoreView} {r : Reading} (h : v.cmi.reading = some r) (hd : r.count ≤ r.done) :
    StoreMove v ⟨v.tbs, { v.cmi with reading := none }⟩
  /-- R184. -/
  | enqueue {v : StoreView} (c : Command) (h : v.cmi.queue.length < Config.commandCapacity) :
    StoreMove v ⟨v.tbs, { v.cmi with queue := v.cmi.queue ++ [c] }⟩
  /-- R186. -/
  | dequeue {v : StoreView} {c : Command} {rest : List Command} (h : v.cmi.queue = c :: rest) :
    StoreMove v ⟨v.tbs, { v.cmi with queue := rest }⟩
  /-- R126, R199. -/
  | softReset (v : StoreView) : StoreMove v ⟨v.tbs.afterSoftReset, Cmi.initial⟩
  /-- R125, R199. -/
  | lineReset (v : StoreView) :
    StoreMove v ⟨{ Tbs.initial with protection := v.tbs.protection.afterLineReset }, Cmi.initial⟩

/-- From `s` to `t` the view of the two blocks goes by moves. -/
def StoreMoves (s t : State) : Prop := Relation.ReflTransGen StoreMove s.storeView t.storeView

theorem StoreMoves.refl (s : State) : StoreMoves s s := Relation.ReflTransGen.refl

theorem StoreMoves.trans {s t u : State} (h : StoreMoves s t) (k : StoreMoves t u) : StoreMoves s u :=
  Relation.ReflTransGen.trans h k

theorem StoreMoves.one {s t : State} {v : StoreView} (h : StoreMove s.storeView v) (ht : t.storeView = v) :
    StoreMoves s t := Relation.ReflTransGen.single (ht ▸ h)

/-- Moves followed by what leaves both blocks. -/
theorem StoreMoves.framed {s t u : State} (h : StoreMoves s t) (htbs : u.tbs = t.tbs) (hcmi : u.cmi = t.cmi) :
    StoreMoves s u := by
  have hview : u.storeView = t.storeView := by rw [State.storeView, htbs, hcmi, ← State.storeView]
  unfold StoreMoves
  rw [hview]
  exact h

/-- Where both blocks stay, no move is made. -/
theorem StoreMoves.of_blocks {s t : State} (htbs : t.tbs = s.tbs) (hcmi : t.cmi = s.cmi) : StoreMoves s t :=
  (StoreMoves.refl s).framed htbs hcmi

theorem StoreMoves.ite {c : Prop} [Decidable c] {s t u : State} (ht : c → StoreMoves s t) (hu : ¬c → StoreMoves s u) :
    StoreMoves s (if c then t else u) := by
  split
  · exact ht ‹_›
  · exact hu ‹_›

/-! ### The read port (R118, R119) -/

theorem State.commandWaits_iff (s : State) :
    s.commandWaits = true ↔ ∃ r : Reading, s.cmi.reading = some r ∧ r.done < r.count := by
  unfold State.commandWaits
  cases s.cmi.reading <;> simp

/-- R118, R121: a grant while a fetch waits, written out. -/
theorem State.grantCommand_of_waits {s : State} {r : Reading} (h : s.cmi.reading = some r) (hd : r.done < r.count) :
    s.grantCommand =
      { s with cmi := { s.cmi with reading := some (r.fetch s.tbs) }, tbs := { s.tbs with grants := 0 } } := by
  rw [State.grantCommand, if_pos (s.commandWaits_iff.mpr ⟨r, h, hd⟩)]
  simp [State.onCmi, State.onTbs, h]

theorem State.grantCommand_of_idle {s : State} (h : s.commandWaits = false) : s.grantCommand = s := by
  simp [State.grantCommand, h]

theorem State.storeMoves_grantCommand (s : State) : StoreMoves s s.grantCommand := by
  cases hw : s.commandWaits with
  | false =>
    rw [State.grantCommand_of_idle hw]
    exact StoreMoves.refl s
  | true =>
    obtain ⟨r, h, hd⟩ := s.commandWaits_iff.mp hw
    rw [State.grantCommand_of_waits h hd]
    exact StoreMoves.one (.grant h hd) rfl

theorem storeMoves_grantCommands (n : Nat) (s : State) : StoreMoves s (grantCommands n s) := by
  induction n generalizing s with
  | zero => exact StoreMoves.refl s
  | succ n ih => exact s.storeMoves_grantCommand.trans (ih _)

theorem State.storeMoves_portGap (s : State) : StoreMoves s s.portGap := by
  rcases s.portGap_cases with ⟨_, e⟩ | ⟨_, n, e⟩ <;> rw [e]
  · exact StoreMoves.refl s
  · exact StoreMoves.trans (StoreMoves.of_blocks rfl rfl) (storeMoves_grantCommands n s.drawFree)

/-- R119: the count of a pipeline grant. -/
theorem State.storeMoves_countGrant {s : State} (hw : s.commandWaits = true) (hg : s.tbs.grants < Config.grantLimit) :
    StoreMoves s (s.onTbs fun t => { t with grants := t.grants + 1 }) := by
  obtain ⟨r, h, hd⟩ := s.commandWaits_iff.mp hw
  exact StoreMoves.one (.count h hd hg) rfl

/-- R119: after a grant to the command request the port's count is 0. -/
theorem State.grantCommand_grants {s : State} (hw : s.commandWaits = true) : s.grantCommand.tbs.grants = 0 := by
  obtain ⟨r, h, hd⟩ := s.commandWaits_iff.mp hw
  rw [State.grantCommand_of_waits h hd]

theorem State.storeMoves_arbitrate (s : State) : StoreMoves s s.arbitrate := by
  rcases s.arbitrate_cases with ⟨hg, hw, e⟩ | ⟨_, _, e⟩ | ⟨hg, hw, e⟩ | ⟨_, _, e⟩ <;> rw [e]
  · exact State.storeMoves_countGrant hw hg
  · exact StoreMoves.refl s
  · refine s.storeMoves_grantCommand.trans (State.storeMoves_countGrant hw ?_)
    cases hs : s.commandWaits with
    | true =>
      rw [State.grantCommand_grants hs]
      decide
    | false =>
      rw [State.grantCommand_of_idle hs, hs] at hw
      cases hw
  · exact s.storeMoves_grantCommand

theorem State.storeMoves_pipelineRequest (s : State) : StoreMoves s s.pipelineRequest := by
  rcases s.pipelineRequest_cases with ⟨_, e⟩ | ⟨_, _, e⟩ | ⟨_, _, e⟩ <;> rw [e]
  · exact StoreMoves.refl s
  · exact s.storeMoves_portGap.trans (State.storeMoves_arbitrate _)
  · exact s.storeMoves_portGap

theorem State.storeMoves_pipelineRequests (n : Nat) (s : State) : StoreMoves s (State.pipelineRequests n s) := by
  induction n generalizing s with
  | zero => exact StoreMoves.refl s
  | succ n ih => exact StoreMoves.ite (fun _ => s.storeMoves_pipelineRequest.trans (ih _)) fun _ => StoreMoves.refl s

/-! ### Switches, entries to STOPPED and resyncs -/

theorem State.storeMoves_generationSwitch (s : State) : StoreMoves s s.generationSwitch :=
  StoreMoves.one (.switch s.storeView) (by
    rw [State.storeView, State.generationSwitch_tbs, State.generationSwitch_cmi]
    rfl)

theorem State.storeMoves_boundaryNotice (s : State) : StoreMoves s s.boundaryNotice :=
  StoreMoves.ite (fun _ => s.storeMoves_generationSwitch) fun _ => StoreMoves.refl s

theorem State.storeMoves_stoppedSwitch (s : State) : StoreMoves s s.stoppedSwitch :=
  StoreMoves.ite (fun _ => s.storeMoves_portGap.trans (State.storeMoves_generationSwitch _)) fun _ => StoreMoves.refl s

/-- R43: of an entry to STOPPED, the switch alone reaches the two blocks. -/
theorem State.storeMoves_enterStopped (s : State) : StoreMoves s s.enterStopped := by
  have hstop : StoreMoves s ((s.onEmq fun q => { q with run := .stopped }).raise .streamStopped) :=
    StoreMoves.of_blocks rfl rfl
  exact (hstop.trans (State.storeMoves_stoppedSwitch _)).framed (by simp [State.enterStopped])
    (by simp [State.enterStopped])

theorem State.storeMoves_drainTest (s : State) : StoreMoves s s.drainTest :=
  StoreMoves.ite (fun _ => s.storeMoves_enterStopped) fun _ => StoreMoves.refl s

theorem State.storeMoves_endResync (s : State) (reason : ResyncReason) : StoreMoves s (s.endResync reason) := by
  unfold State.endResync
  cases s.emq.run with
  | running => cases reason <;> exact StoreMoves.of_blocks rfl rfl
  | draining => exact s.storeMoves_enterStopped
  | stopped => exact StoreMoves.refl s
  | waiting => exact StoreMoves.refl s

theorem State.storeMoves_doResync (s : State) (reason : ResyncReason) : StoreMoves s (s.doResync reason) := by
  rw [State.doResync_eq]
  refine StoreMoves.trans (StoreMoves.of_blocks ?_ ?_) (State.storeMoves_endResync _ reason) <;>
    simp [State.flushAndMark]

theorem State.storeMoves_askResync (s : State) (reason : ResyncReason) : StoreMoves s (s.askResync reason) := by
  rcases s.askResync_cases reason with ⟨_, e⟩ | ⟨_, e⟩ <;> rw [e]
  · exact s.storeMoves_doResync reason
  · exact StoreMoves.refl s

/-! ### Closing -/

/-- R83: the handling of a closed pulse reads its bank once. -/
theorem State.storeMoves_formPoints (s : State) (p : Pulse) (evicted : Bool) : StoreMoves s (s.formPoints p evicted) := by
  have hsweep : StoreMoves s (s.sweepTest p) := StoreMoves.of_blocks (by simp) (by simp)
  exact (hsweep.trans (State.storeMoves_pipelineRequest _)).framed (by simp [State.formPoints])
    (by simp [State.formPoints])

theorem State.storeMoves_closeHead (s : State) (evicted : Bool) : StoreMoves s (s.closeHead evicted) := by
  unfold State.closeHead
  split
  · exact StoreMoves.refl s
  · rename_i p rest _
    have hqueue : StoreMoves s (s.onEmq fun q => { q with queue := rest }) := StoreMoves.of_blocks rfl rfl
    exact ((hqueue.trans (State.storeMoves_formPoints _ p evicted)).framed (by rfl) (by rfl)).trans
      (State.storeMoves_drainTest _)

theorem storeMoves_closeExpired (n : Nat) (s : State) : StoreMoves s (closeExpired n s) := by
  induction n generalizing s with
  | zero => exact StoreMoves.refl s
  | succ n ih =>
    unfold closeExpired
    split
    · exact StoreMoves.refl s
    · exact StoreMoves.ite
        (fun _ => (s.storeMoves_pipelineRequest.trans (State.storeMoves_closeHead _ _)).trans (ih _))
        fun _ => s.storeMoves_pipelineRequest

theorem State.storeMoves_pulseClose (s : State) : StoreMoves s s.pulseClose := by
  unfold State.pulseClose
  split
  · exact StoreMoves.refl s
  · exact StoreMoves.ite (fun _ => s.storeMoves_pipelineRequest.trans (State.storeMoves_closeHead _ _))
      fun _ => s.storeMoves_pipelineRequest

/-- R46: room is made by an eviction, or there is some. -/
theorem State.storeMoves_makeRoom (s : State) : StoreMoves s s.makeRoom := by
  refine StoreMoves.ite (fun _ => ?_) fun _ => StoreMoves.refl s
  obtain ⟨first, e⟩ := s.evictHead_eq
  rw [e]
  refine (StoreMoves.trans ?_ (State.storeMoves_closeHead _ true)).framed (by rfl) (by rfl)
  cases first <;> exact StoreMoves.of_blocks rfl rfl

/-! ### The tracker and the Exposure Unit -/

theorem State.storeMoves_handleIndex (s : State) (id : ChannelId) (raw : RawCount) :
    StoreMoves s (s.handleIndex id raw) :=
  StoreMoves.ite (fun _ => StoreMoves.trans (StoreMoves.of_blocks (by rfl) (by rfl)) (State.storeMoves_askResync _ _))
    fun _ => StoreMoves.of_blocks rfl rfl

theorem State.storeMoves_handleSample (s : State) (id : ChannelId) (raw : RawCount) :
    StoreMoves s (s.handleSample id raw) := by
  unfold State.handleSample
  dsimp only
  split
  · exact StoreMoves.of_blocks rfl rfl
  · exact StoreMoves.of_blocks rfl rfl
  · exact StoreMoves.trans (StoreMoves.of_blocks (by rfl) (by rfl)) (State.storeMoves_askResync _ _)

theorem State.storeMoves_track (s : State) (mirror azimuth : RawCount) : StoreMoves s (s.track mirror azimuth).1 :=
  (((State.storeMoves_pipelineRequests _ s).trans (State.storeMoves_handleSample _ .mirror mirror)).trans
    (State.storeMoves_handleSample _ .azimuth azimuth)).framed rfl rfl

theorem State.storeMoves_makeExposure (s : State) (i : Nat) (v : PulseView) : StoreMoves s (s.makeExposure i v) :=
  s.storeMoves_pipelineRequest.framed (by simp [State.makeExposure]) (by simp [State.makeExposure])

theorem storeMoves_compareTargets (prev lead : Azimuth) (v : PulseView) (n : Nat) (first : Bool) (s : State) :
    StoreMoves s (compareTargets prev lead v n first s) := by
  induction n generalizing s first with
  | zero => exact StoreMoves.refl s
  | succ n ih =>
    unfold compareTargets
    split
    · exact StoreMoves.refl s
    · rename_i i _
      have hexposure : StoreMoves s (s.pipelineRequest.makeExposure i v) :=
        s.storeMoves_pipelineRequest.trans (State.storeMoves_makeExposure _ i v)
      have hmissed : StoreMoves s (s.pipelineRequest.raise .exposureMissed) :=
        s.storeMoves_pipelineRequest.framed (by rfl) (by rfl)
      refine StoreMoves.ite (fun _ => StoreMoves.trans ?_ (ih _ _)) fun _ => s.storeMoves_pipelineRequest
      exact (StoreMoves.ite (fun _ => hexposure) fun _ => hmissed).framed (by rfl) (by rfl)

/-- R128, R148: the unit's work on a pulse reaches the two blocks by its reads of the plan alone. -/
theorem State.storeMoves_exposureWork (s : State) (v : PulseView) : StoreMoves s (s.exposureWork v).1 := by
  have hseek : ∀ lead : Azimuth, StoreMoves s (s.seekPlan lead) := fun lead =>
    StoreMoves.ite (fun _ => (State.storeMoves_pipelineRequests _ s).framed (by rfl) (by rfl)) fun _ => StoreMoves.refl s
  have hcompare : ∀ (u : State) (lead : Azimuth), StoreMoves u (u.comparePlan lead v) := fun u lead => by
    unfold State.comparePlan
    split
    · exact StoreMoves.refl u
    · exact storeMoves_compareTargets _ lead v _ true u
  unfold State.exposureWork
  split
  · refine ((hseek (s.leadAzimuth v.azimuth)).trans (hcompare _ (s.leadAzimuth v.azimuth))).framed ?_ ?_ <;>
      simp [State.rememberAzimuths]
  · exact StoreMoves.refl s

/-! ### FIRE and ECHO records -/

theorem State.storeMoves_judgePulse (s : State) (t : Timestamp) (k : Handoff) : StoreMoves s (s.judgePulse t k) := by
  rcases s.judgePulse_cases t k with e | e | ⟨m, azimuth, _, _, _, _, _, _, e⟩ <;> rw [e]
  · exact StoreMoves.refl s
  · exact StoreMoves.of_blocks rfl rfl
  · exact (s.storeMoves_makeRoom.trans (State.storeMoves_exposureWork _ _)).framed rfl rfl

theorem State.storeMoves_considerPulse (s : State) (t : Timestamp) (k : Handoff) :
    StoreMoves s (s.considerPulse t k) := by
  unfold State.considerPulse
  cases s.emq.run with
  | stopped => exact StoreMoves.refl s
  | draining => exact StoreMoves.refl s
  | running => exact s.storeMoves_judgePulse t k
  | waiting =>
    have hstart : StoreMoves s s.tryStart := StoreMoves.of_blocks (by simp) (by simp)
    exact StoreMoves.ite (fun _ => hstart.trans (State.storeMoves_judgePulse _ t k)) fun _ => StoreMoves.refl s

theorem State.storeMoves_handleFire (s : State) (t : Timestamp) (mirror azimuth : RawCount) :
    StoreMoves s (s.handleFire t mirror azimuth) := by
  have hpulse := (s.storeMoves_track mirror azimuth).trans
    (State.storeMoves_considerPulse _ t (s.track mirror azimuth).2)
  exact StoreMoves.ite
    (fun _ => (hpulse.trans (State.storeMoves_portGap _)).trans (State.storeMoves_boundaryNotice _)) fun _ => hpulse

/-- R63, R65: the assignment of an echo reads MaxEchoes once. -/
theorem State.storeMoves_assignEcho (s : State) (a : Acceptable) (amplitude : BitVec 12) (width : BitVec 10) :
    StoreMoves s (s.assignEcho a amplitude width) := by
  have hplace : ∀ u : State, StoreMoves u (u.placeEcho a amplitude width) := fun u =>
    StoreMoves.of_blocks (by simp) (by simp)
  exact (StoreMoves.trans (StoreMoves.of_blocks (by rfl) (by rfl)) (State.storeMoves_pipelineRequest _)).trans (hplace _)

theorem State.storeMoves_decideEcho (s : State) (te : Timestamp) (amplitude : BitVec 12) (width : BitVec 10) :
    StoreMoves s (s.decideEcho te amplitude width) := by
  rcases s.decideEcho_cases te amplitude width with ⟨_, e⟩ | ⟨a, _, e⟩ | ⟨a, b, rest, c, _, _, e⟩ | ⟨a, b, rest, _, _, e⟩ <;>
    rw [e]
  · exact StoreMoves.of_blocks rfl rfl
  · exact s.storeMoves_assignEcho a amplitude width
  · exact StoreMoves.trans (StoreMoves.of_blocks (by rfl) (by rfl)) (State.storeMoves_assignEcho _ c amplitude width)
  · exact StoreMoves.of_blocks rfl rfl

theorem State.storeMoves_handleEcho (s : State) (te : Timestamp) (amplitude : BitVec 12) (width : BitVec 10) :
    StoreMoves s (s.handleEcho te amplitude width) := by
  have hecho : StoreMoves s
      ((State.pipelineRequests (s.echoRequests te amplitude.toNat) s).decideEcho te amplitude width) :=
    (State.storeMoves_pipelineRequests _ s).trans (State.storeMoves_decideEcho _ te amplitude width)
  unfold State.handleEcho
  cases s.emq.run with
  | running => exact hecho
  | draining => exact hecho
  | stopped => exact StoreMoves.refl s
  | waiting => exact StoreMoves.refl s

end Sys2Proof.Machine
end

section
/-! PROOFS. The moves of the Table Store and the Command Interpreter that commands, records, rows and steps make. -/

namespace Sys2Proof.Machine

/-! ### Writes (R107, R109) -/

theorem length_writeEntries {t : TableId} (content : List (EntryOf t)) (es : List (Nat × ReadEntry t)) :
    (writeEntries content es).length = content.length := by
  induction es generalizing content with
  | nil => rfl
  | cons x es ih =>
    rw [writeEntries, ih]
    exact List.length_set

/-! ### Commands -/

/-- R187: a command refused for its length changes nothing. -/
theorem StoreMoves.ofLength {s : State} {k : Reply} (h : StoreMoves s k.state) (n : Nat) (args : List Byte) :
    StoreMoves s (Reply.ofLength n args s k).state := by
  unfold Reply.ofLength
  split
  · exact h
  · exact StoreMoves.refl s

/-- R106, R109: a TABLE_WRITE to a table that exists is refused, or its entries are written. -/
theorem State.writeTable_cases (s : State) (t : TableId) (start : Nat) (bytes : List Byte) :
    (∃ e, s.writeTable t start bytes = s.refuse e) ∨
      ∃ es : List (Nat × ReadEntry t),
        s.writeTable t start bytes =
          (s.onTbs fun b =>
            { b with
              staged := b.staged.setTable t (writeEntries (b.staged.table t) es)
              stagedStatus := b.stagedStatus.set t .dirty }).accept [byte (clampCount es)] := by
  unfold State.writeTable
  dsimp only
  repeat' split
  case h_2 => exact .inr ⟨_, rfl⟩
  all_goals exact .inl ⟨_, rfl⟩

theorem State.storeMoves_tableWrite (s : State) (args : List Byte) : StoreMoves s (cmdTableWrite args s).state := by
  have hwrite : ∀ (t : TableId) (start : Nat) (bytes : List Byte), StoreMoves s (s.writeTable t start bytes).state := by
    intro t start bytes
    rcases s.writeTable_cases t start bytes with ⟨x, e⟩ | ⟨es, e⟩ <;> rw [e]
    · exact StoreMoves.refl s
    · exact StoreMoves.one (.write t (length_writeEntries (s.tbs.staged.table t) es)) rfl
  unfold cmdTableWrite
  repeat' split
  case h_2.isFalse => exact hwrite _ _ _
  all_goals exact StoreMoves.refl s

theorem State.storeMoves_takeCommit (s : State) (t : TableId) : StoreMoves s (s.takeCommit t).state := by
  have hmark : StoreMoves s (s.onTbs fun b => { b with stagedStatus := b.stagedStatus.set t .pending }) :=
    StoreMoves.one (.mark s.storeView t (st := .pending) (by decide)) rfl
  unfold State.takeCommit
  dsimp only
  split
  · exact hmark.trans (State.storeMoves_generationSwitch _)
  · exact hmark

theorem State.storeMoves_tableCommit (s : State) (args : List Byte) : StoreMoves s (cmdTableCommit args s).state := by
  refine StoreMoves.ofLength ?_ 1 args
  unfold State.commitTable
  repeat' split
  case h_2 => exact s.storeMoves_takeCommit _
  all_goals exact StoreMoves.refl s

theorem State.storeMoves_tableCancel (s : State) (args : List Byte) : StoreMoves s (cmdTableCancel args s).state := by
  have hcancel : ∀ t : TableId, StoreMoves s (s.cancelTable t).state := by
    intro t
    unfold State.cancelTable
    split
    · exact StoreMoves.refl s
    · split
      · exact StoreMoves.one (.mark s.storeView t (st := .dirty) (by decide)) rfl
      · exact StoreMoves.refl s
  refine StoreMoves.ofLength ?_ 1 args
  split
  · exact StoreMoves.refl s
  · split
    · exact StoreMoves.refl s
    · exact hcancel _

/-- R124: SET_PROTECT is not taken in mode FROZEN. -/
theorem State.storeMoves_setProtect (s : State) (args : List Byte) : StoreMoves s (cmdSetProtect args s).state := by
  refine StoreMoves.ofLength ?_ 4 args
  split
  · rename_i htakes
    split
    · exact StoreMoves.refl s
    · rename_i p _
      refine StoreMoves.one (.protect p fun hfrozen => ?_) rfl
      change s.tbs.protection.mode = .frozen at hfrozen
      rw [hfrozen] at htakes
      cases htakes
  · exact StoreMoves.refl s

theorem State.storeMoves_stop (s : State) (args : List Byte) : StoreMoves s (cmdStop args s).state := by
  refine StoreMoves.ofLength ?_ 0 args
  cases s.emq.run with
  | running =>
    dsimp only
    split
    · exact s.storeMoves_enterStopped
    · exact StoreMoves.of_blocks rfl rfl
  | waiting => exact s.storeMoves_enterStopped
  | stopped => exact StoreMoves.refl s
  | draining => exact StoreMoves.refl s

/-- R187: what a command other than TABLE_READ does. -/
theorem State.storeMoves_replyTo (s : State) (c : Command) : StoreMoves s (replyTo c s).state := by
  have hresync := (s.storeMoves_doResync .command).ofLength (k := State.accept _ []) 0 c.args
  have hreset := StoreMoves.ofLength (k := s.softReset.accept []) (StoreMoves.one (.softReset s.storeView) rfl) 0 c.args
  refine replyTo_cases s c (fun r => StoreMoves s r.state) ?_ ?_ ?_ ?_ ?_ ?_ (s.storeMoves_tableWrite c.args)
    (s.storeMoves_tableCommit c.args) (s.storeMoves_tableCancel c.args) ?_ (s.storeMoves_setProtect c.args) ?_
    (s.storeMoves_stop c.args) hresync ?_ ?_ ?_ ?_ hreset (StoreMoves.refl s) <;>
    exact StoreMoves.of_blocks (by simp) (by simp)

theorem State.storeMoves_takeCommand (s : State) (c : Command) : StoreMoves s (s.takeCommand c) := by
  rcases s.takeCommand_cases c with ⟨r, hr, _, e⟩ | ⟨x, _, _, e⟩ | ⟨_, e⟩ <;> rw [e]
  · obtain ⟨hdone, hpos, hmax, _⟩ := readRequest_ok s hr
    exact StoreMoves.one (.read s.storeView hdone hpos hmax) rfl
  · exact StoreMoves.of_blocks (by simp [State.refuse]) (by simp [State.refuse])
  · exact (s.storeMoves_replyTo c).framed (by simp) (by simp)

theorem State.storeMoves_deliverCommand (s : State) (c : Command) : StoreMoves s (s.deliverCommand c) := by
  rcases s.deliverCommand_cases c with ⟨_, _, e⟩ | ⟨_, hroom, e⟩ | ⟨_, _, e⟩ <;> rw [e]
  · exact s.storeMoves_takeCommand c
  · exact StoreMoves.one (.enqueue c hroom) rfl
  · exact StoreMoves.of_blocks (by simp [State.refuse]) (by simp [State.refuse])

theorem storeMoves_drainCommands (n : Nat) (s : State) : StoreMoves s (drainCommands n s) := by
  induction n generalizing s with
  | zero => exact StoreMoves.refl s
  | succ n ih =>
    unfold drainCommands
    split
    · rename_i c rest _ hqueue
      have htaken : StoreMoves s (s.onCmi fun m => { m with queue := rest }) := StoreMoves.one (.dequeue hqueue) rfl
      exact (htaken.trans (State.storeMoves_takeCommand _ c)).trans (ih _)
    · exact StoreMoves.refl s

/-- R121, R186: the end of a row. -/
theorem State.storeMoves_settleRead (s : State) : StoreMoves s s.settleRead := by
  have hanswer : StoreMoves s s.answerRead := by
    rcases s.answerRead_cases with ⟨r, hr, hd, e⟩ | ⟨_, e⟩ <;> rw [e]
    · exact (StoreMoves.one (t := s.onCmi fun c => { c with reading := none }) (.answer hr hd) rfl).framed (by simp)
        (by simp)
    · exact StoreMoves.refl s
  unfold State.settleRead
  rcases s.answerRead.takeQueued_cases with ⟨_, _, n, e⟩ | ⟨_, e⟩ <;> rw [e]
  · exact (hanswer.framed (by rfl) (by rfl)).trans (storeMoves_drainCommands n _)
  · exact hanswer

/-! ### Records and frames -/

/-- Section 1.5: where every handling of a record goes by moves, the record does. -/
theorem State.storeMoves_timed (s : State) (t : Timestamp) {handle : State → State}
    (hk : ∀ u : State, StoreMoves u (handle u)) : StoreMoves s (s.timed t handle) := by
  have htime : StoreMoves s (s.setTime t) := StoreMoves.of_blocks rfl rfl
  have hadvance : StoreMoves s (s.advance t) :=
    (htime.trans (storeMoves_closeExpired _ _)).framed (t := (s.setTime t).closing) (by simp [State.advance])
      (by simp [State.advance])
  rcases s.timed_cases t handle with ⟨_, e⟩ | ⟨_, e⟩ | ⟨_, e⟩ | ⟨_, e⟩ <;> rw [e]
  · exact hadvance.trans (hk _)
  · exact hk s
  · exact hk s
  · exact htime.trans (State.storeMoves_askResync _ .timeJump)

/-- Section 1.4: a delivered record of any kind. -/
theorem State.storeMoves_deliver (s : State) (r : Record) : StoreMoves s (s.deliver r) := by
  have hreject : StoreMoves s s.rejectFrame := StoreMoves.of_blocks rfl rfl
  cases r with
  | fire t m a => exact s.storeMoves_timed t fun u => u.storeMoves_handleFire t m a
  | echo t a w => exact s.storeMoves_timed t fun u => u.storeMoves_handleEcho t a w
  | tick t => exact s.storeMoves_timed t StoreMoves.refl
  | index c raw => exact s.storeMoves_handleIndex c raw
  | tile n st cols rows cells =>
    exact StoreMoves.ite (fun _ => StoreMoves.of_blocks (by simp) (by simp)) fun _ => hreject
  | cmd c => exact StoreMoves.ite (fun _ => s.storeMoves_deliverCommand c) fun _ => hreject

theorem State.storeMoves_classified (s : State) (kind : Byte) (payload : List Byte) :
    StoreMoves s (s.classified kind payload) := by
  unfold State.classified
  split
  · exact s.storeMoves_deliver _
  · exact StoreMoves.of_blocks rfl rfl

/-- R4: the loss of the link asks for a resync. -/
theorem State.storeMoves_frameFails (s : State) : StoreMoves s s.frameFails := by
  unfold State.frameFails State.syncFail
  dsimp only
  repeat' split
  · exact StoreMoves.of_blocks rfl rfl
  · exact StoreMoves.of_blocks rfl rfl
  · exact StoreMoves.trans (StoreMoves.of_blocks (by rfl) (by rfl)) (State.storeMoves_askResync _ _)

theorem State.storeMoves_receiveBytes (s : State) (bytes : List Byte) : StoreMoves s (s.receiveBytes bytes) := by
  have hpassed : StoreMoves s s.passed := StoreMoves.of_blocks rfl rfl
  rcases s.receiveBytes_cases bytes with ⟨_, e⟩ | ⟨_, _, e⟩ | ⟨_, _, _, e⟩ | ⟨_, kind, payload, _, e⟩ <;> rw [e]
  · exact StoreMoves.refl s
  · exact s.storeMoves_frameFails
  · exact StoreMoves.of_blocks rfl rfl
  · exact hpassed.trans (State.storeMoves_classified _ kind payload)

theorem State.storeMoves_receiveRecord (s : State) (r : Record) : StoreMoves s (s.receiveRecord r) := by
  have hpassed : StoreMoves s s.passed := StoreMoves.of_blocks rfl rfl
  rcases s.receiveRecord_cases r with ⟨_, e⟩ | ⟨_, _, e⟩ | ⟨_, e⟩ <;> rw [e]
  · exact StoreMoves.refl s
  · exact StoreMoves.of_blocks rfl rfl
  · exact hpassed.trans (State.storeMoves_deliver _ r)

/-! ### Rows and steps -/

theorem State.storeMoves_withLines (s : State) (l : Lines) : StoreMoves s (s.withLines l) :=
  StoreMoves.of_blocks (by simp) (by simp)

theorem State.storeMoves_atLines (s : State) (o : Option Lines) : StoreMoves s (s.atLines o) := by
  cases o with
  | none => exact StoreMoves.refl s
  | some l => exact s.storeMoves_withLines l

/-- A row that ends by settling the read. -/
theorem StoreMoves.settled {s u t : State} (h : StoreMoves s u) (he : u.settled = .next t) : StoreMoves s t := by
  cases he
  exact h.trans u.storeMoves_settleRead

/-- Every row but POWER_ON_RESET, which alone leaves a FROZEN protection (R124), goes by moves. -/
theorem exec_storeMoves {i : Instr} {s t : State} (hi : ∀ l : Lines, i ≠ .powerOnReset l) (he : exec i s = .next t) :
    StoreMoves s t := by
  cases hr : recordOf i with
  | some ro =>
    obtain ⟨r, o⟩ := ro
    rw [exec_of_recordOf s hr] at he
    exact ((s.storeMoves_atLines o).trans (State.storeMoves_receiveRecord _ r)).settled he
  | none =>
    cases i
    case powerOnReset l => exact absurd rfl (hi l)
    case lineReset => cases he; exact StoreMoves.one (.lineReset s.storeView) rfl
    case resetNRelease l =>
      cases he
      exact StoreMoves.trans (StoreMoves.of_blocks (by rfl) (by rfl)) (State.storeMoves_withLines _ l)
    case frameCheckFail bytes => exact (s.storeMoves_receiveBytes bytes).settled he
    case huntFrame bytes => exact (s.storeMoves_receiveBytes bytes).settled he
    case frameRefused bytes => exact (s.storeMoves_receiveBytes bytes).settled he
    case tableReadFetch l => exact ((s.storeMoves_withLines l).trans (State.storeMoves_grantCommand _)).settled he
    case pulseClose => exact s.storeMoves_pulseClose.settled he
    case batchFlush => exact (StoreMoves.of_blocks (by simp) (by simp)).settled he
    case l2WindowEnd =>
      exact (StoreMoves.ite (fun _ => StoreMoves.of_blocks (by rfl) (by rfl)) fun _ => StoreMoves.refl s).settled he
    case captureFull =>
      exact (StoreMoves.ite (fun _ => StoreMoves.of_blocks (by rfl) (by rfl)) fun _ => StoreMoves.refl s).settled he
    case tileTimeout laser =>
      exact (StoreMoves.ite (fun _ => StoreMoves.of_blocks (by simp) (by simp)) fun _ => StoreMoves.refl s).settled he
    case tileRetire laser =>
      exact (StoreMoves.ite (fun _ => StoreMoves.of_blocks (by rfl) (by rfl)) fun _ => StoreMoves.refl s).settled he
    case generationSwitch => exact s.storeMoves_boundaryNotice.settled he
    case streamStarted => exact (StoreMoves.of_blocks (by simp) (by simp)).settled he
    case drainEnd => exact s.storeMoves_drainTest.settled he
    case recReadyRise => exact (StoreMoves.of_blocks (by rfl) (by rfl)).settled he
    case frameDepartureEnd l =>
      have hl := s.storeMoves_withLines l
      exact (StoreMoves.ite (fun _ => hl.framed (by simp) (by simp)) fun _ => hl).settled he
    case rspWaitAdmit => exact (StoreMoves.of_blocks (by simp) (by simp)).settled he
    case camTrigPulseEnd => exact (StoreMoves.of_blocks (by rfl) (by rfl)).settled he
    all_goals cases hr

/-- A step, the idle one too, is a POWER_ON_RESET or changes the view by moves alone. -/
theorem step_storeMoves {s t : State} (h : step s = .next t) :
    (∃ (l : Lines) (rest : List Instr), s.pending = .powerOnReset l :: rest ∧ t.storeView = ⟨Tbs.initial, Cmi.initial⟩) ∨
      StoreMoves s t := by
  unfold step at h
  split at h
  · cases h
    exact .inr (storeMoves_drainCommands 1 s)
  · rename_i i rest hp
    by_cases hi : ∃ l : Lines, i = .powerOnReset l
    · obtain ⟨l, rfl⟩ := hi
      cases h
      exact .inl ⟨l, rest, hp, rfl⟩
    · exact .inr (StoreMoves.trans (StoreMoves.of_blocks (by rfl) (by rfl)) (exec_storeMoves (not_exists.mp hi) h))

/-- What every move keeps, a chain of moves keeps. -/
theorem StoreMoves.keep {P : StoreView → Prop} (hP : ∀ v w, StoreMove v w → P v → P w) {s t : State}
    (h : StoreMoves s t) (hs : P s.storeView) : P t.storeView := by
  unfold StoreMoves at h
  generalize t.storeView = w at h
  induction h with
  | refl => exact hs
  | tail _ hmove ih => exact hP _ _ hmove ih

end Sys2Proof.Machine
end

section
/-! PROOFS. A FROZEN protection (O34), the banks (O54) and the commands (O58), each kept by every move. -/

namespace Sys2Proof.Machine

/-! ### The protection (R124 to R126) -/

/-- R124: the protection is `p`, and FROZEN. -/
def StoreView.frozenAt (v : StoreView) (p : Protection) : Prop := v.tbs.protection = p ∧ p.mode = .frozen

/-- R124 to R126: SET_PROTECT is not taken, and the two resets that are moves keep a FROZEN protection. -/
theorem StoreView.frozenAt.move {v w : StoreView} {p : Protection} (h : v.frozenAt p) (hmove : StoreMove v w) :
    w.frozenAt p := by
  obtain ⟨rfl, hmode⟩ := h
  cases hmove with
  | protect _ hnot => exact absurd hmode hnot
  | lineReset => exact ⟨if_pos hmode, hmode⟩
  | _ => exact ⟨rfl, hmode⟩

/-- Settles O34: every move keeps a FROZEN protection, and every step but a POWER_ON_RESET goes by moves. -/
theorem frozenProtectionStays : Obligations.FrozenProtectionStays := by
  intro s t hpending hmode hstep
  rcases step_storeMoves hstep with ⟨l, rest, hp, _⟩ | hmoves
  · exact absurd hp (hpending l rest)
  · exact (hmoves.keep (P := fun v => v.frozenAt s.tbs.protection) (fun _ _ hmove h => h.move hmove) ⟨rfl, hmode⟩).1

/-! ### The banks (R103, R105) -/

/-- R103, R105: the banks of a view agree with its statuses. -/
def StoreView.agrees (v : StoreView) : Prop :=
  v.tbs.staged.sized ∧ v.tbs.bankActive.sized ∧ v.tbs.retiring.sized ∧
  ∀ t : TableId,
    (v.tbs.stagedStatus.get t = .clean → v.tbs.staged.table t = v.tbs.bankActive.table t) ∧
    (v.tbs.activeStatus.get t = .empty → v.tbs.bankActive.table t = Bank.zero.table t)

theorem State.agrees_iff (s : State) : s.storeView.agrees ↔ s.banksAgree := Iff.rfl

theorem Bank.zero_sized : Bank.zero.sized := by
  intro t
  cases t <;> exact List.length_replicate

/-- R103: the tables after a power-on or line reset, whatever the protection. -/
theorem StoreView.agrees_initial (p : Protection) (c : Cmi) :
    StoreView.agrees ⟨{ Tbs.initial with protection := p }, c⟩ :=
  ⟨Bank.zero_sized, Bank.zero_sized, Bank.zero_sized, fun _ => ⟨fun _ => rfl, fun _ => rfl⟩⟩

/-- R109: a content of the same length keeps the size of every table. -/
theorem Bank.sized.setTable {b : Bank} (h : b.sized) {t : TableId} {c : List (EntryOf t)}
    (hc : c.length = (b.table t).length) : (b.setTable t c).sized := by
  intro u
  by_cases hu : u = t
  · subst hu
    rw [Bank.table_setTable_self, hc, h]
  · rw [Bank.table_setTable_ne b hu, h]

/-- R114: a switch takes into ACTIVE what is STAGED for the PENDING tables, and keeps the others. -/
theorem Tbs.switchedTable_cases (t : Tbs) (id : TableId) :
    (t.isPending id = true ∧ t.switchedTable id = t.staged.table id) ∨
      (t.isPending id = false ∧ t.switchedTable id = t.bankActive.table id) := by
  unfold Tbs.switchedTable
  cases t.isPending id <;> simp

/-- R126: a soft reset makes no table CLEAN that was not. -/
theorem StagedStatus.afterSoftReset_eq_clean_iff (st : StagedStatus) : st.afterSoftReset = .clean ↔ st = .clean := by
  cases st <;> decide

/-- A status other than CLEAN takes a table out of the agreement with ACTIVE. -/
theorem StoreView.agrees.set_status {v : StoreView} (h : v.agrees) (t : TableId) {st : StagedStatus} (hst : st ≠ .clean) :
    StoreView.agrees ⟨{ v.tbs with stagedStatus := v.tbs.stagedStatus.set t st }, v.cmi⟩ := by
  obtain ⟨hstaged, hactive, hretiring, hagree⟩ := h
  refine ⟨hstaged, hactive, hretiring, fun u => ⟨fun hclean => ?_, (hagree u).2⟩⟩
  by_cases hu : u = t
  · exact absurd (by simpa [PerTable.get_set, hu] using hclean) hst
  · exact (hagree u).1 (by simpa [PerTable.get_set, hu] using hclean)

/-- R109: a write leaves every other table of STAGED, and its own is DIRTY. -/
theorem StoreView.agrees.write {v : StoreView} (h : v.agrees) (t : TableId) {c : List (EntryOf t)}
    (hc : c.length = (v.tbs.staged.table t).length) :
    StoreView.agrees
      ⟨{ v.tbs with staged := v.tbs.staged.setTable t c, stagedStatus := v.tbs.stagedStatus.set t .dirty }, v.cmi⟩ := by
  obtain ⟨hstaged, hactive, hretiring, hagree⟩ := h.set_status t (st := .dirty) (by decide)
  refine ⟨Bank.sized.setTable hstaged hc, hactive, hretiring, fun u => ⟨fun hclean => ?_, (hagree u).2⟩⟩
  by_cases hu : u = t
  · simp [PerTable.get_set, hu] at hclean
  · exact (Bank.table_setTable_ne _ hu c).trans ((hagree u).1 hclean)

/-- R114: a PENDING table is VALID and CLEAN after a switch, with one content in both banks. -/
theorem StoreView.agrees.switch {v : StoreView} (h : v.agrees) (c : Cmi) : StoreView.agrees ⟨v.tbs.switch, c⟩ := by
  obtain ⟨hstaged, hactive, hretiring, hagree⟩ := h
  refine ⟨hstaged, fun t => ?_, hactive, fun t => ?_⟩
  · rw [Tbs.switch_table]
    rcases v.tbs.switchedTable_cases t with ⟨_, e⟩ | ⟨_, e⟩ <;> rw [e]
    · exact hstaged t
    · exact hactive t
  · simp only [Tbs.switch_table, Tbs.switch_stagedStatus, Tbs.switch_activeStatus]
    rcases v.tbs.switchedTable_cases t with ⟨hp, e⟩ | ⟨hp, e⟩ <;> rw [e, hp]
    · exact ⟨fun _ => rfl, by simp⟩
    · simpa using hagree t

theorem StoreView.agrees.move {v w : StoreView} (h : v.agrees) (hmove : StoreMove v w) : w.agrees := by
  cases hmove with
  | switch => exact h.switch _
  | write t hc => exact h.write t hc
  | mark t hst => exact h.set_status t hst
  | softReset =>
    obtain ⟨hstaged, hactive, _, hagree⟩ := h
    refine ⟨hstaged, hactive, hactive, fun t => ⟨fun hclean => (hagree t).1 ?_, (hagree t).2⟩⟩
    exact (StagedStatus.afterSoftReset_eq_clean_iff _).mp (by simpa [Tbs.afterSoftReset] using hclean)
  | lineReset => exact StoreView.agrees_initial _ _
  | _ => exact h

/-- Settles O54: every move and the power-on reset keep banks and statuses in agreement. -/
theorem banksStayInAgreement : Obligations.BanksStayInAgreement := by
  intro s t h hstep
  rw [← t.agrees_iff]
  rcases step_storeMoves hstep with ⟨_, _, _, hview⟩ | hmoves
  · rw [hview]
    exact StoreView.agrees_initial Protection.initial Cmi.initial
  · exact hmoves.keep (fun _ _ hmove hv => hv.move hmove) (s.agrees_iff.mpr h)

/-! ### The command queue and the port's count (R119, R121, R184) -/

/-- R119, R121, R184: what holds inside a row too: the last fetch of a read may have been made, and the port's count is 0
unless one is to be made. -/
structure StoreView.bounded (v : StoreView) : Prop where
  queue : v.cmi.queue.length ≤ Config.commandCapacity
  grants : v.tbs.grants ≤ Config.grantLimit
  reading : ∀ r ∈ v.cmi.reading, r.done ≤ r.count ∧ r.count ≤ 32
  idle : v.tbs.grants = 0 ∨ ∃ r ∈ v.cmi.reading, r.done < r.count

/-- R121: every read in execution has a fetch to make. -/
def Cmi.readGoesOn (c : Cmi) : Prop := ∀ r ∈ c.reading, r.done < r.count

theorem Cmi.readGoesOn_of_none {c : Cmi} (h : c.reading = none) : c.readGoesOn := by simp [Cmi.readGoesOn, h]

theorem State.commandsConsistent_iff (s : State) :
    s.commandsConsistent ↔ s.storeView.bounded ∧ s.cmi.readGoesOn := by
  unfold State.commandsConsistent Cmi.readGoesOn
  cases hr : s.cmi.reading with
  | none =>
    refine ⟨fun ⟨hq, hg, h0⟩ => ⟨⟨hq, hg, ?_, .inl h0⟩, ?_⟩, fun ⟨⟨hq, hg, _, hidle⟩, _⟩ => ⟨hq, hg, ?_⟩⟩
    · simp [State.storeView, hr]
    · simp
    · simpa [State.storeView, hr] using hidle
  | some r =>
    refine ⟨fun ⟨hq, hg, hd, hc⟩ => ⟨⟨hq, hg, ?_, .inr ⟨r, hr, hd⟩⟩, ?_⟩, fun ⟨⟨hq, hg, hread, _⟩, hon⟩ => ⟨hq, hg, ?_⟩⟩
    · simp only [State.storeView, hr, Option.mem_def, Option.some.injEq, forall_eq']
      exact ⟨hd.le, hc⟩
    · simpa using hd
    · exact ⟨hon r rfl, (hread r hr).2⟩

/-- After a reset no command waits and no grant is counted (R125, R126, R199). -/
theorem StoreView.bounded_initial {t : Tbs} (h : t.grants = 0) : StoreView.bounded ⟨t, Cmi.initial⟩ :=
  ⟨Nat.zero_le _, h ▸ Nat.zero_le _, by simp [Cmi.initial], .inl h⟩

/-- R122: a switch changes neither the fetches made nor those asked for. -/
theorem Reading.sawSwitch_counts (r : Reading) : r.sawSwitch.done = r.done ∧ r.sawSwitch.count = r.count := ⟨rfl, rfl⟩

theorem StoreView.bounded.move {v w : StoreView} (h : v.bounded) (hmove : StoreMove v w) : w.bounded := by
  obtain ⟨hqueue, hgrants, hreading, hidle⟩ := h
  cases hmove with
  | @grant r hr hd =>
    refine ⟨hqueue, Nat.zero_le _, ?_, .inl rfl⟩
    simp only [Option.mem_def, Option.some.injEq, forall_eq']
    exact ⟨hd, (hreading r hr).2⟩
  | @count r hr hd hg => exact ⟨hqueue, hg, hreading, .inr ⟨r, hr, hd⟩⟩
  | switch =>
    refine ⟨hqueue, hgrants, ?_, ?_⟩
    · simpa [Reading.sawSwitch_counts] using hreading
    · simpa [Reading.sawSwitch_counts] using hidle
  | @read r hdone hpos hmax =>
    refine ⟨hqueue, hgrants, ?_, .inr ⟨r, rfl, by omega⟩⟩
    simp only [Option.mem_def, Option.some.injEq, forall_eq']
    omega
  | @answer r hr hd =>
    refine ⟨hqueue, hgrants, by simp, .inl (hidle.resolve_right ?_)⟩
    rintro ⟨x, hx, hlt⟩
    obtain rfl : r = x := Option.some.inj (hr.symm.trans hx)
    omega
  | enqueue c hroom => exact ⟨by simpa using hroom, hgrants, hreading, hidle⟩
  | dequeue hq =>
    rw [hq, List.length_cons] at hqueue
    exact ⟨Nat.le_of_succ_le hqueue, hgrants, hreading, hidle⟩
  | softReset => exact StoreView.bounded_initial rfl
  | lineReset => exact StoreView.bounded_initial rfl
  | _ => exact ⟨hqueue, hgrants, hreading, hidle⟩

/-! ### The end of a row (R121, R186) -/

/-- R184: a command other than TABLE_READ, taken with no read in execution, leaves the interpreter alone or resets it. -/
theorem replyTo_cmi_of_none {s : State} (h : s.cmi.reading = none) (c : Command) :
    (replyTo c s).state.cmi = s.cmi ∨ (replyTo c s).state.cmi = Cmi.initial := by
  refine replyTo_cases s c (fun r => r.state.cmi = s.cmi ∨ r.state.cmi = Cmi.initial) ?_ ?_ ?_ ?_ ?_ ?_ ?_ ?commit ?_ ?_ ?_
    ?_ ?stop ?resync ?_ ?_ ?_ ?_ ?reset (.inl rfl)
  case commit =>
    unfold cmdTableCommit Reply.ofLength State.commitTable State.takeCommit
    dsimp only
    repeat' split
    all_goals simp [State.accept, State.refuse, State.generationSwitch_cmi_of_none, h]
  case stop =>
    unfold cmdStop Reply.ofLength
    repeat' split
    all_goals simp [State.accept, State.refuse, State.enterStopped_cmi_of_none, h]
  case resync =>
    unfold cmdResync Reply.ofLength
    split <;> simp [State.accept, State.refuse, State.doResync_cmi_of_none, h]
  case reset =>
    unfold cmdReset Reply.ofLength
    split <;> simp [State.accept, State.refuse, State.softReset]
  all_goals exact .inl (by simp)

/-- R121, R184: a command taken with no read in execution leaves none, or one with every fetch to make. -/
theorem State.takeCommand_readGoesOn {s : State} (h : s.cmi.reading = none) (c : Command) :
    (s.takeCommand c).cmi.readGoesOn := by
  rcases s.takeCommand_cases c with ⟨r, hr, _, e⟩ | ⟨x, _, _, e⟩ | ⟨_, e⟩ <;> rw [e]
  · obtain ⟨hdone, hpos, _⟩ := readRequest_ok s hr
    simp only [Cmi.readGoesOn, State.onCmi_cmi, Option.mem_def, Option.some.injEq, forall_eq']
    omega
  · exact Cmi.readGoesOn_of_none (by simpa [State.refuse] using h)
  · refine Cmi.readGoesOn_of_none ?_
    rcases replyTo_cmi_of_none h c with hc | hc <;> simp [hc, h, Cmi.initial]

theorem drainCommands_readGoesOn (n : Nat) {s : State} (h : s.cmi.readGoesOn) : (drainCommands n s).cmi.readGoesOn := by
  induction n generalizing s with
  | zero => exact h
  | succ n ih =>
    unfold drainCommands
    split
    · rename_i c rest hr _
      exact ih (State.takeCommand_readGoesOn (s := s.onCmi fun m => { m with queue := rest }) hr c)
    · exact h

/-- R121: at the end of a row every read in execution has a fetch to make. -/
theorem State.settleRead_readGoesOn (s : State) : s.settleRead.cmi.readGoesOn := by
  have hanswer : s.answerRead.cmi.readGoesOn := by
    rcases s.answerRead_cases with ⟨r, _, _, e⟩ | ⟨hr | ⟨r, hr, hd⟩, e⟩ <;> rw [e]
    · exact Cmi.readGoesOn_of_none (by simp)
    · exact Cmi.readGoesOn_of_none hr
    · simpa [Cmi.readGoesOn, hr] using hd
  unfold State.settleRead
  rcases s.answerRead.takeQueued_cases with ⟨_, _, n, e⟩ | ⟨_, e⟩ <;> rw [e]
  · exact drainCommands_readGoesOn n hanswer
  · exact hanswer

/-- Every row settles the read at its end, leaves the interpreter alone or resets it. -/
theorem exec_ends {i : Instr} {s t : State} (he : exec i s = .next t) :
    (∃ u : State, t = u.settleRead) ∨ t.cmi = s.cmi ∨ t.cmi = Cmi.initial := by
  cases i with
  | powerOnReset l => cases he; exact .inr (.inr rfl)
  | lineReset => cases he; exact .inr (.inr rfl)
  | resetNRelease l => cases he; exact .inr (.inl (by simp))
  | _ => cases he; exact .inl ⟨_, rfl⟩

theorem step_readGoesOn {s t : State} (h : s.cmi.readGoesOn) (hstep : step s = .next t) : t.cmi.readGoesOn := by
  unfold step at hstep
  split at hstep
  · cases hstep
    exact drainCommands_readGoesOn 1 h
  · rcases exec_ends hstep with ⟨u, rfl⟩ | e | e
    · exact u.settleRead_readGoesOn
    · rw [e]
      exact h
    · rw [e]
      exact Cmi.readGoesOn_of_none rfl

/-- Settles O58: every move keeps the bounds, and every row ends with a fetch to make in a read that goes on. -/
theorem commandsStayConsistent : Obligations.CommandsStayConsistent := by
  intro s t h hstep
  obtain ⟨hbounded, hon⟩ := s.commandsConsistent_iff.mp h
  refine t.commandsConsistent_iff.mpr ⟨?_, step_readGoesOn hon hstep⟩
  rcases step_storeMoves hstep with ⟨_, _, _, hview⟩ | hmoves
  · rw [hview]
    exact StoreView.bounded_initial rfl
  · exact hmoves.keep (fun _ _ hmove hv => hv.move hmove) hbounded

end Sys2Proof.Machine
end

section
/-! PROOFS. Places of a write (O29), and the entries of the tables as their bytes spell them (O28). -/

namespace Sys2Proof.Machine

/-! ### The segment of a write (R107) -/

/-- R107: a table has whole segments of 32 entries, or one shorter segment. -/
theorem segment_length (t : TableId) {start : Nat} (h : start < t.entries) :
    min 32 (t.entries - start / 32 * 32) = min 32 t.entries := by
  cases t <;> simp only [TableId.entries] at h ⊢ <;> omega

theorem segmentIndex_eq (t : TableId) {start : Nat} (h : start < t.entries) (k : Nat) :
    segmentIndex t start k = start / 32 * 32 + (start % 32 + k) % min 32 t.entries := by
  have hplace : start - start / 32 * 32 = start % 32 := by omega
  rw [segmentIndex, segment_length t h, hplace]

/-- R107: the first place, the segment kept, and the wrap past its last entry. -/
theorem segmentIndex_spec (t : TableId) {start : Nat} (h : start < t.entries) (k : Nat) :
    segmentIndex t start 0 = start ∧
    segmentIndex t start k < t.entries ∧
    segmentIndex t start k / 32 = start / 32 ∧
    segmentIndex t start (k + 1) =
      if (segmentIndex t start k + 1) % 32 = 0 ∨ segmentIndex t start k + 1 = t.entries then start / 32 * 32
      else segmentIndex t start k + 1 := by
  simp only [segmentIndex_eq t h]
  cases t <;> simp only [TableId.entries, Nat.min_def, Nat.reduceLeDiff, if_true, if_false] at h ⊢ <;>
    refine ⟨by omega, by omega, by omega, ?_⟩ <;> split <;> omega

/-- R107: of the values carried for an entry the last stands, and the value held where none is carried. -/
theorem getElem?_writeEntries {t : TableId} (content : List (EntryOf t)) (es : List (Nat × ReadEntry t)) {i : Nat}
    (h : i < content.length) :
    (writeEntries content es)[i]? =
      (((es.filter fun x => decide (x.1 = i)).getLast?).map fun x => x.2.1).or content[i]? := by
  induction es generalizing content with
  | nil => rfl
  | cons x es ih =>
    rw [writeEntries, ih (content.set x.1 x.2.1) (by simpa using h)]
    by_cases hx : x.1 = i
    · rw [List.filter_cons_of_pos (by simpa using hx), List.getLast?_cons, ← hx, List.getElem?_set_self (hx ▸ h)]
      cases (es.filter fun y => decide (y.1 = x.1)).getLast? <;> rfl
    · rw [List.filter_cons_of_neg (by simpa using hx), List.getElem?_set_ne hx]

/-- Settles O29: the places of a write by the segment, its values by the order they are carried in. -/
theorem writesWrapInTheirSegment : Obligations.WritesWrapInTheirSegment := by
  refine ⟨fun t start k h => segmentIndex_spec t h k, fun t content es i => ⟨length_writeEntries content es, fun h => ?_⟩⟩
  rw [getElem?_writeEntries content es h]
  cases (es.filter fun x => decide (x.1 = i)).getLast? <;> rfl

/-! ### Fields of an entry (section 11.5) -/

/-- The `n` bytes from place `i`, which `fieldAt` reads. -/
def bytesAt (bs : List Byte) (i n : Nat) : List Byte := (bs.drop i).take n

theorem fieldAt_eq (bs : List Byte) (i n : Nat) : fieldAt bs i n = beNat (bytesAt bs i n) := rfl

/-- Neighbouring places are one. -/
theorem bytesAt_append (bs : List Byte) {i j n : Nat} (h : j = i + n) (m : Nat) :
    bytesAt bs i n ++ bytesAt bs j m = bytesAt bs i (n + m) := by
  simp only [h, bytesAt, List.take_add, List.drop_drop]

theorem bytesAt_all {bs : List Byte} {n : Nat} (h : bs.length = n) : bytesAt bs 0 n = bs := by
  simp [bytesAt, ← h]

theorem bytesAt_length {bs : List Byte} {i n : Nat} (h : i + n ≤ bs.length) : (bytesAt bs i n).length = n := by
  simp only [bytesAt, List.length_take, List.length_drop]
  omega

section
variable {bs : List Byte} {i n : Nat} (h : i + n ≤ bs.length)
include h

theorem beBytes_fieldAt : beBytes n (fieldAt bs i n) = bytesAt bs i n := beBytes_beNat (bytesAt_length h)

theorem beBytes_ofNat_fieldAt {w : Nat} (hw : 256 ^ n = 2 ^ w) :
    beBytes n (BitVec.ofNat w (fieldAt bs i n)).toNat = bytesAt bs i n := beBytes_ofNat_beNat hw (bytesAt_length h)

/-- A signed field is written in two's complement as it was read. -/
theorem beIntBytes_signedAt : beIntBytes n (signedAt bs i n) = bytesAt bs i n := by
  have hbase : (256 ^ n : Int) = ((2 ^ (8 * n) : Nat) : Int) := by
    rw [pow_mul]
    norm_num
  have hlow : (signedAt bs i n % (256 ^ n : Int)).toNat = fieldAt bs i n % 2 ^ (8 * n) := by
    rw [signedAt, signedMod, hbase, Int.bmod_emod, ← Int.natCast_emod, Int.toNat_natCast]
  have hpow : (2 : Nat) ^ (8 * n) = 256 ^ n := by
    rw [pow_mul]
    norm_num
  rw [beIntBytes, hlow, hpow, beBytes_mod, beBytes_fieldAt h]

end

theorem byte_fieldAt {bs : List Byte} {i : Nat} (h : i + 1 ≤ bs.length) : [byte (fieldAt bs i 1)] = bytesAt bs i 1 := by
  rw [← beBytes_fieldAt h]
  simp [beBytes, byte]

end Sys2Proof.Machine
end

section
/-! PROOFS. The entries of the tables, read and written back (O28). -/

namespace Sys2Proof.Machine

/-! ### Codes and clamps (R108, R203) -/

theorem zonePolicyOf_eq_getElem? (n : Nat) : zonePolicyOf n = [ZonePolicy.nearest, .farthest, .track, .discard][n]? := by
  rcases n with _ | _ | _ | _ | n <;> rfl

theorem outputPolicyOf_eq_getElem? (n : Nat) :
    outputPolicyOf n = [OutputPolicy.all, .first, .last, .strongest, .firstLast][n]? := by
  rcases n with _ | _ | _ | _ | _ | n <;> rfl

theorem tiePrefOf_eq_getElem? (n : Nat) : tiePrefOf n = [TiePref.near, .far][n]? := by
  rcases n with _ | _ | n <;> rfl

theorem code_of_zonePolicyOf {n : Nat} {p : ZonePolicy} (h : zonePolicyOf n = some p) : p.code = n := by
  unfold zonePolicyOf at h
  split at h <;> cases h <;> rfl

theorem code_of_outputPolicyOf {n : Nat} {p : OutputPolicy} (h : outputPolicyOf n = some p) : p.code = n := by
  unfold outputPolicyOf at h
  split at h <;> cases h <;> rfl

theorem code_of_tiePrefOf {n : Nat} {p : TiePref} (h : tiePrefOf n = some p) : p.code = n := by
  unfold tiePrefOf at h
  split at h <;> cases h <;> rfl

theorem boolByte_of_flagOf {n : Nat} {b : Bool} (h : flagOf n = some b) : boolByte b = byte n := by
  unfold flagOf at h
  split at h <;> cases h <;> rfl

theorem clampNat_zero (hi v : Nat) : clampNat 0 hi v = min hi v := Nat.zero_max _

theorem clampNat_eq_self_iff {lo hi : Nat} (hle : lo ≤ hi) (v : Nat) : clampNat lo hi v = v ↔ lo ≤ v ∧ v ≤ hi := by
  unfold clampNat
  omega

/-- R108: a clamp changes the values outside its range. -/
theorem clampNat_ne_self_iff {lo hi : Nat} (hle : lo ≤ hi) (v : Nat) : clampNat lo hi v ≠ v ↔ v < lo ∨ hi < v := by
  rw [Ne, clampNat_eq_self_iff hle]
  omega

/-! ### Entries as they are read (section 11.5) -/

theorem readZone_eq (bs : List Byte) :
    readZone bs = ([ZonePolicy.nearest, .farthest, .track, .discard][fieldAt bs 9 1]?).map fun policy =>
      ({ rmin := min (2 ^ 28 - 1) (fieldAt bs 0 4), rmax := min (2 ^ 28 - 1) (fieldAt bs 4 4)
         maxZone := min 127 (fieldAt bs 8 1), policy := policy },
        decide (2 ^ 28 - 1 < fieldAt bs 0 4 ∨ 2 ^ 28 - 1 < fieldAt bs 4 4 ∨ 127 < fieldAt bs 8 1)) := by
  simp only [readZone, zonePolicyOf_eq_getElem?, clampNat_zero]
  rfl

theorem readPolicy_of_codes {bs : List Byte} {policy : OutputPolicy} {tie : TiePref} {miss : Bool}
    (hpolicy : outputPolicyOf (fieldAt bs 0 1) = some policy) (htie : tiePrefOf (fieldAt bs 9 1) = some tie)
    (hmiss : flagOf (fieldAt bs 10 1) = some miss) :
    readPolicy bs =
      some
        ({ policy := policy, outMax := max 1 (min 8 (fieldAt bs 1 1)), maxEchoes := max 1 (min 8 (fieldAt bs 2 1))
           ampMin := min 4095 (fieldAt bs 3 2), widthMin := min 1023 (fieldAt bs 5 2)
           widthMax := min 1023 (fieldAt bs 7 2), tiePref := tie, missReport := miss },
          decide (fieldAt bs 1 1 < 1 ∨ 8 < fieldAt bs 1 1 ∨ fieldAt bs 2 1 < 1 ∨ 8 < fieldAt bs 2 1 ∨
            4095 < fieldAt bs 3 2 ∨ 1023 < fieldAt bs 5 2 ∨ 1023 < fieldAt bs 7 2)) := by
  simp only [readPolicy, hpolicy, htie, hmiss, clampNat_zero]
  refine congrArg some (Prod.ext rfl (decide_eq_decide.mpr ?_))
  simp only [clampNat_ne_self_iff (by decide : 1 ≤ 8)]
  omega

theorem readPolicy_eq (bs : List Byte) :
    readPolicy bs =
      match [OutputPolicy.all, .first, .last, .strongest, .firstLast][fieldAt bs 0 1]?,
        [TiePref.near, .far][fieldAt bs 9 1]?, [false, true][fieldAt bs 10 1]? with
      | some policy, some tie, some miss =>
        some
          ({ policy := policy, outMax := max 1 (min 8 (fieldAt bs 1 1)), maxEchoes := max 1 (min 8 (fieldAt bs 2 1))
             ampMin := min 4095 (fieldAt bs 3 2), widthMin := min 1023 (fieldAt bs 5 2)
             widthMax := min 1023 (fieldAt bs 7 2), tiePref := tie, missReport := miss },
            decide (fieldAt bs 1 1 < 1 ∨ 8 < fieldAt bs 1 1 ∨ fieldAt bs 2 1 < 1 ∨ 8 < fieldAt bs 2 1 ∨
              4095 < fieldAt bs 3 2 ∨ 1023 < fieldAt bs 5 2 ∨ 1023 < fieldAt bs 7 2))
      | _, _, _ => none := by
  rw [← outputPolicyOf_eq_getElem?, ← tiePrefOf_eq_getElem?, ← flagOf_eq_getElem?]
  cases hpolicy : outputPolicyOf (fieldAt bs 0 1) with
  | none => simp only [readPolicy, hpolicy]
  | some policy =>
    cases htie : tiePrefOf (fieldAt bs 9 1) with
    | none => simp only [readPolicy, hpolicy, htie]
    | some tie =>
      cases hmiss : flagOf (fieldAt bs 10 1) with
      | none => simp only [readPolicy, hpolicy, htie, hmiss]
      | some miss => exact readPolicy_of_codes hpolicy htie hmiss

theorem readPlan_eq (bs : List Byte) :
    readPlan bs = ([false, true][fieldAt bs 13 1]?).map fun enable =>
      ({ station := min 254 (fieldAt bs 0 1), target := BitVec.ofNat 24 (fieldAt bs 1 3)
         span := max 1 (min (2 ^ 22) (fieldAt bs 4 3)), elLo := signedAt bs 7 3, elHi := signedAt bs 10 3
         enable := enable },
        decide (254 < fieldAt bs 0 1 ∨ fieldAt bs 4 3 < 1 ∨ 2 ^ 22 < fieldAt bs 4 3)) := by
  simp only [readPlan, flagOf_eq_getElem?, clampNat_zero, Nat.lt_one_iff]
  rfl

/-- R108: a RANGE_CONST word by the entry it lands in. -/
theorem clampRangeWord_spec (w : Nat) :
    clampRangeWord 0 w = BitVec.ofNat 32 (max 1400000 (min 1700000 w)) ∧
    clampRangeWord 1 w = BitVec.ofInt 32 (max (-32768) (min 32767 (signedMod 32 w))) ∧
    clampRangeWord 2 w = BitVec.ofNat 32 (min (2 ^ 28 - 1) w) ∧
    clampRangeWord 3 w = BitVec.ofNat 32 (min (2 ^ 28 - 1) w) ∧
    ∀ i : Nat, clampRangeWord (i + 4) w = BitVec.ofNat 32 (max 1 (min (2 ^ 23) w)) := by
  refine ⟨rfl, rfl, ?_, ?_, fun i => rfl⟩ <;> simp only [clampRangeWord, clampNat_zero, maxRange]

/-! ### Entries that are not clamped (R108) -/

section
variable {bs : List Byte}

theorem entryBytes_of_readZone {e : ZoneEntry} (hl : bs.length = 10) (h : readZone bs = some (e, false)) :
    entryBytes .zonePlan e = bs := by
  simp only [readZone, Option.map_eq_some_iff, Prod.mk.injEq, decide_eq_false_iff_not, not_or, not_lt] at h
  obtain ⟨policy, hpolicy, rfl, hrmin, hrmax, hzone⟩ := h
  have hlast : [byte (fieldAt bs 8 1), byte (fieldAt bs 9 1)] = bytesAt bs 8 2 := by
    rw [← bytesAt_append bs (by rfl : 9 = 8 + 1) 1, ← byte_fieldAt (by omega), ← byte_fieldAt (by omega)]
    rfl
  simp only [entryBytes, code_of_zonePolicyOf hpolicy, clampNat_zero, Nat.min_eq_right, hrmin, hrmax, hzone, hlast]
  rw [beBytes_fieldAt (by omega), beBytes_fieldAt (by omega), bytesAt_append bs (by rfl), bytesAt_append bs (by rfl),
    bytesAt_all hl]

theorem entryBytes_of_readPolicy {e : PolicyEntry} (hl : bs.length = 11) (h : readPolicy bs = some (e, false)) :
    entryBytes .echoPolicy e = bs := by
  unfold readPolicy at h
  split at h
  · rename_i policy tie miss hpolicy htie hmiss
    simp only [Option.some.injEq, Prod.mk.injEq, decide_eq_false_iff_not, not_or, not_not] at h
    obtain ⟨rfl, hout, hmax, hamp, hlo, hhi⟩ := h
    have hfirst : [byte (fieldAt bs 0 1), byte (fieldAt bs 1 1), byte (fieldAt bs 2 1)] = bytesAt bs 0 3 := by
      rw [← bytesAt_append bs (by rfl : 1 = 0 + 1) 2, ← bytesAt_append bs (by rfl : 2 = 1 + 1) 1,
        ← byte_fieldAt (by omega), ← byte_fieldAt (by omega), ← byte_fieldAt (by omega)]
      rfl
    have hlast : [byte (fieldAt bs 9 1), byte (fieldAt bs 10 1)] = bytesAt bs 9 2 := by
      rw [← bytesAt_append bs (by rfl : 10 = 9 + 1) 1, ← byte_fieldAt (by omega), ← byte_fieldAt (by omega)]
      rfl
    simp only [entryBytes, code_of_outputPolicyOf hpolicy, code_of_tiePrefOf htie, boolByte_of_flagOf hmiss, hout, hmax,
      hamp, hlo, hhi, hfirst, hlast]
    rw [beBytes_fieldAt (by omega), beBytes_fieldAt (by omega), beBytes_fieldAt (by omega), bytesAt_append bs (by rfl),
      bytesAt_append bs (by rfl), bytesAt_append bs (by rfl), bytesAt_append bs (by rfl), bytesAt_all hl]
  · cases h

theorem entryBytes_of_readFacet {e : FacetEntry} {c : Bool} (hl : bs.length = 3) (h : readFacet bs = some (e, c)) :
    entryBytes .facet e = bs := by
  simp only [readFacet, Option.map_eq_some_iff, Prod.mk.injEq] at h
  obtain ⟨enable, henable, rfl, _⟩ := h
  simp only [entryBytes, boolByte_of_flagOf henable]
  rw [beIntBytes_signedAt (by omega), byte_fieldAt (by omega), bytesAt_append bs (by rfl), bytesAt_all hl]

theorem entryBytes_of_readPlan {e : PlanEntry} (hl : bs.length = 14) (h : readPlan bs = some (e, false)) :
    entryBytes .exposurePlan e = bs := by
  simp only [readPlan, Option.map_eq_some_iff, Prod.mk.injEq, decide_eq_false_iff_not, not_or, not_lt] at h
  obtain ⟨enable, henable, rfl, hstation, hpos, hspan⟩ := h
  simp only [entryBytes, boolByte_of_flagOf henable, clampNat_zero, Nat.min_eq_right hstation,
    (clampNat_eq_self_iff (by decide) _).mpr ⟨Nat.one_le_iff_ne_zero.mpr hpos, hspan⟩]
  rw [beBytes_ofNat_fieldAt (by omega) (by decide), beBytes_fieldAt (by omega), beIntBytes_signedAt (by omega),
    beIntBytes_signedAt (by omega), byte_fieldAt (by omega), ← List.singleton_append, byte_fieldAt (by omega),
    bytesAt_append bs (by rfl), bytesAt_append bs (by rfl), bytesAt_append bs (by rfl), bytesAt_append bs (by rfl),
    bytesAt_append bs (by rfl), bytesAt_all hl]

/-- R108: an entry whose fields are not clamped reads back as its bytes. -/
theorem entryBytes_of_readEntry {t : TableId} {i : Nat} {e : EntryOf t} (hl : bs.length = t.entryLength)
    (h : readEntry t i bs = some (e, false)) : entryBytes t e = bs := by
  have hword : ∀ n : Nat, bs.length = n → beIntBytes n (signedAt bs 0 n) = bs := fun n hn => by
    rw [beIntBytes_signedAt (by omega), bytesAt_all hn]
  cases t with
  | rangeConst =>
    simp only [readEntry, Option.some.injEq, Prod.mk.injEq, decide_eq_false_iff_not, not_not] at h
    obtain ⟨rfl, hkept⟩ := h
    simp only [entryBytes, hkept]
    rw [beBytes_ofNat_fieldAt (by simp [hl, TableId.entryLength]) (by decide)]
    exact bytesAt_all hl
  | zonePlan => exact entryBytes_of_readZone hl h
  | echoPolicy => exact entryBytes_of_readPolicy hl h
  | facet => exact entryBytes_of_readFacet hl h
  | exposurePlan => exact entryBytes_of_readPlan hl h
  | _ =>
    obtain rfl := congrArg Prod.fst (Option.some.inj h)
    simp only [entryBytes]
    exact hword 2 hl

end

/-! ### The carried entries (R107) -/

theorem readEntries_succ_eq_some_iff {t : TableId} {start n k : Nat} {bs : List Byte} {es : List (Nat × ReadEntry t)} :
    readEntries t start (n + 1) k bs = some es ↔
      ∃ (e : ReadEntry t) (rest : List (Nat × ReadEntry t)), es = (segmentIndex t start k, e) :: rest ∧
        readEntry t (segmentIndex t start k) (bs.take t.entryLength) = some e ∧
        readEntries t start n (k + 1) (bs.drop t.entryLength) = some rest := by
  rw [readEntries]
  cases readEntry t (segmentIndex t start k) (bs.take t.entryLength) <;>
    cases readEntries t start n (k + 1) (bs.drop t.entryLength) <;> simp [eq_comm]

/-- R107: the carried entries are read in order, each into the entry of its place. -/
theorem readEntries_eq_some_iff (t : TableId) (start n k : Nat) (bs : List Byte) (es : List (Nat × ReadEntry t)) :
    readEntries t start n k bs = some es ↔
      es.length = n ∧ ∀ j : Nat, j < n → ∃ e : ReadEntry t,
        readEntry t (segmentIndex t start (k + j)) ((bs.drop (j * t.entryLength)).take t.entryLength) = some e ∧
          es[j]? = some (segmentIndex t start (k + j), e) := by
  induction n generalizing k bs es with
  | zero => simp [readEntries, eq_comm (a := [])]
  | succ n ih =>
    have hplace : ∀ j : Nat, k + (j + 1) = k + 1 + j := fun j => by omega
    have hbytes : ∀ j : Nat, t.entryLength + j * t.entryLength = (j + 1) * t.entryLength := fun j => by ring
    rw [readEntries_succ_eq_some_iff]
    simp only [ih, Nat.forall_lt_succ_left, List.drop_drop, hbytes, ← hplace]
    cases es with
    | nil => simp
    | cons x xs =>
      simp only [List.cons.injEq, List.length_cons, Nat.add_right_cancel_iff, List.getElem?_cons_zero,
        List.getElem?_cons_succ, Option.some.injEq, Nat.zero_mul, List.drop_zero, Nat.add_zero]
      constructor
      · rintro ⟨e, rest, ⟨rfl, rfl⟩, he, hlen, hrest⟩
        exact ⟨hlen, ⟨e, he, rfl⟩, hrest⟩
      · rintro ⟨hlen, ⟨e, he, rfl⟩, hrest⟩
        exact ⟨e, xs, ⟨rfl, rfl⟩, he, hlen, hrest⟩

/-- Settles O28: each table's entry by its layout, the bytes back, the carried entries and their count. -/
theorem entriesAreClampedAsTheyAreRead : Obligations.EntriesAreClampedAsTheyAreRead := by
  refine ⟨fun i bs => ⟨?_, rfl, rfl, rfl, readZone_eq bs, ?_, ?_, readPlan_eq bs⟩,
    fun t i bs e => entryBytes_of_readEntry, readEntries_eq_some_iff,
    fun t es => List.countP_eq_length_filter.symm⟩
  · obtain ⟨h0, h1, h2, h3, h4⟩ := clampRangeWord_spec (fieldAt bs 0 4)
    simp only [readEntry]
    rcases i with _ | _ | _ | _ | i
    · rw [h0]; rfl
    · rw [h1]; rfl
    · rw [h2]; rfl
    · rw [h3]; rfl
    · rw [h4]; rfl
  · exact (readPolicy_eq bs).trans (by rfl)
  · exact congrArg (Option.map _) (flagOf_eq_getElem? _)

end Sys2Proof.Machine
end

section
/-! PROOFS. TABLE_WRITE (O27), the commit checks, TABLE_COMMIT and TABLE_CANCEL (O30), and generation switches (O31). -/

namespace Sys2Proof.Machine

/-! ### Commands taken at once (R184, R188) -/

/-- The answer of a command with arguments that is taken at once, from its reply at the lines that its row finds. -/
theorem exec_of_reply_at {i : Instr} {tag code : Byte} {args : List Byte} {o : Option Lines} {s : State}
    (hi : recordOf i = some (commandRecord code tag args, o)) (hs : s.takes) (hl : args.length ≤ maxArgs)
    (hcode : code ≠ tableReadCode) :
    exec i s = .next ((replyTo ⟨tag, code, args⟩ (s.atLines o).passed).send ⟨tag, code, args⟩) := by
  rw [exec_of_takes s hi hs hl, State.takeCommand]
  exact congrArg Host.Outcome.next (if_neg hcode)

/-- An answer chosen by a test is the answer of the reply chosen. -/
theorem Reply.send_ite {p q : Prop} [Decidable p] [Decidable q] {a b : Reply} {c : Command} {x y : State} (h : p ↔ q)
    (ha : a.send c = x) (hb : b.send c = y) : (if p then a else b).send c = if q then x else y := by
  rw [apply_ite (Reply.send · c), ha, hb]
  exact if_congr h rfl rfl

theorem fieldAt_head (b : Byte) (bs : List Byte) : fieldAt (b :: bs) 0 1 = b.toNat := by simp [fieldAt, beNat]

theorem fieldAt_tail (b : Byte) (bs : List Byte) (i n : Nat) : fieldAt (b :: bs) (i + 1) n = fieldAt bs i n := rfl

theorem tableAbsent_iff (variant : Variant) (t : TableId) :
    tableAbsent variant t = true ↔ variant = .p4m ∧ t = .exposurePlan := decide_eq_true_iff

theorem Tbs.isPending_iff (b : Tbs) (t : TableId) : b.isPending t = true ↔ b.stagedStatus.get t = .pending :=
  decide_eq_true_iff

/-! ### TABLE_WRITE (R106) -/

/-- Settles O27: the checks of R106 one after another, then the write. -/
theorem tableWriteIsCheckedInOrder : Obligations.TableWriteIsCheckedInOrder := by
  intro tag table start bytes s hs hlen u answer
  have hargs : (table :: start :: bytes).length ≤ maxArgs := by simp only [List.length_cons, maxArgs]; omega
  rw [exec_of_reply_at (i := .tableWrite tag (table :: start :: bytes)) rfl hs hargs (by decide)]
  refine congrArg Host.Outcome.next ?_
  have htwo : ¬(table :: start :: bytes).length < 2 := by simp
  change (cmdTableWrite (table :: start :: bytes) s.passed).send _ = _
  rw [cmdTableWrite, if_neg htwo, fieldAt_tail, fieldAt_head, fieldAt_head]
  cases tableOf table.toNat with
  | none => rfl
  | some t =>
    refine Reply.send_ite (tableAbsent_iff _ t) rfl (Reply.send_ite .rfl rfl (Reply.send_ite .rfl rfl
      (Reply.send_ite (Tbs.isPending_iff _ t) rfl (Reply.send_ite .rfl rfl ?_))))
    change Reply.send (match readEntries t start.toNat (bytes.length / t.entryLength) 0 bytes with
      | none => _
      | some es => _) _ = _
    cases readEntries t start.toNat (bytes.length / t.entryLength) 0 bytes <;> rfl

/-! ### The commit checks (R110) -/

/-- The first index with a property. -/
def FirstAt (P : Nat → Prop) (i : Nat) : Prop := P i ∧ ∀ j, j < i → ¬P j

theorem firstAt_congr {P Q : Nat → Prop} (h : ∀ i, P i ↔ Q i) (i : Nat) : FirstAt P i ↔ FirstAt Q i := by
  simp only [FirstAt, h]

theorem firstAt_zero {P : Nat → Prop} : FirstAt P 0 ↔ P 0 := by simp [FirstAt]

theorem firstAt_succ {P : Nat → Prop} {i : Nat} : FirstAt P (i + 1) ↔ ¬P 0 ∧ FirstAt (fun j => P (j + 1)) i := by
  simp only [FirstAt, Nat.forall_lt_succ_left]
  tauto

/-- A first index is the only one. -/
theorem FirstAt.eq {P : Nat → Prop} {i j : Nat} (hi : FirstAt P i) (hj : FirstAt P j) : i = j := by
  rcases lt_trichotomy i j with h | h | h
  · exact absurd hi.1 (hj.2 i h)
  · exact h
  · exact absurd hj.1 (hi.2 j h)

/-- A search from index `i` that stops at its first element or goes on behind it. -/
theorem search_eq_some_iff {P : Nat → Prop} {i : Nat} {r : Option Nat} {c : Prop} [Decidable c] (hstop : c → P 0)
    (hgo : ¬c → ¬P 0 ∧ ∀ k, r = some k ↔ ∃ j, k = i + 1 + j ∧ FirstAt (fun m => P (m + 1)) j) (k : Nat) :
    (if c then some i else r) = some k ↔ ∃ j, k = i + j ∧ FirstAt P j := by
  by_cases hc : c
  · have hzero : FirstAt P 0 := firstAt_zero.mpr (hstop hc)
    rw [if_pos hc, Option.some.injEq]
    exact ⟨fun h => ⟨0, h.symm, hzero⟩, fun ⟨j, hk, hj⟩ => by rw [hk, hj.eq hzero, Nat.add_zero]⟩
  · obtain ⟨hzero, hlater⟩ := hgo hc
    rw [if_neg hc, hlater]
    constructor
    · rintro ⟨j, rfl, hj⟩
      exact ⟨j + 1, by omega, firstAt_succ.mpr ⟨hzero, hj⟩⟩
    · rintro ⟨j, rfl, hj⟩
      cases j with
      | zero => exact absurd hj.1 hzero
      | succ j => exact ⟨j, by omega, (firstAt_succ.mp hj).2⟩

/-- R110: the search for a failing entry finds the first one. -/
theorem firstFailure_eq_some_iff {α : Type} (bad : α → Bool) (i : Nat) (l : List α) (k : Nat) :
    firstFailure bad i l = some k ↔ ∃ j, k = i + j ∧ FirstAt (fun m => ∃ x, l[m]? = some x ∧ bad x = true) j := by
  induction l generalizing i k with
  | nil => simp [firstFailure, FirstAt]
  | cons x l ih =>
    refine search_eq_some_iff (fun hx => ⟨x, rfl, hx⟩) (fun hx => ⟨?_, fun k => ih (i + 1) k⟩) k
    rintro ⟨y, hy, hbad⟩
    obtain rfl : x = y := by simpa using hy
    exact hx hbad

/-- R110: the plan entry at a place fails, after an enabled entry of target `prev`: its elevations are not in order, or its
target is not above that of an earlier enabled entry. -/
def PlanFails (prev : Option Azimuth) (plan : List PlanEntry) (j : Nat) : Prop :=
  ∃ e, plan[j]? = some e ∧ e.enable = true ∧
    (e.elHi ≤ e.elLo ∨ notAbove prev e.target = true ∨
      ∃ (k : Nat) (f : PlanEntry), k < j ∧ plan[k]? = some f ∧ f.enable = true ∧ e.target.toNat ≤ f.target.toNat)

theorem planFails_zero {prev : Option Azimuth} {e : PlanEntry} {plan : List PlanEntry} :
    PlanFails prev (e :: plan) 0 ↔ e.enable = true ∧ (e.elHi ≤ e.elLo ∨ notAbove prev e.target = true) := by
  simp [PlanFails]

/-- An earlier enabled entry that a target is not above: the first of the plan, or one behind it. -/
theorem exists_earlier_cons {e : PlanEntry} {plan : List PlanEntry} {j : Nat} (target : Azimuth) :
    (∃ (k : Nat) (f : PlanEntry), k < j + 1 ∧ (e :: plan)[k]? = some f ∧ f.enable = true ∧
        target.toNat ≤ f.target.toNat) ↔
      (e.enable = true ∧ target.toNat ≤ e.target.toNat) ∨
        ∃ (k : Nat) (f : PlanEntry), k < j ∧ plan[k]? = some f ∧ f.enable = true ∧ target.toNat ≤ f.target.toNat := by
  constructor
  · rintro ⟨k, f, hk, hf, henable, hle⟩
    cases k with
    | zero =>
      obtain rfl : e = f := by simpa using hf
      exact .inl ⟨henable, hle⟩
    | succ k => exact .inr ⟨k, f, by omega, by simpa using hf, henable, hle⟩
  · rintro (⟨henable, hle⟩ | ⟨k, f, hk, hf, henable, hle⟩)
    · exact ⟨0, e, by omega, rfl, henable, hle⟩
    · exact ⟨k + 1, f, by omega, by simpa using hf, henable, hle⟩

theorem planFails_succ_of_disabled {prev : Option Azimuth} {e : PlanEntry} {plan : List PlanEntry} {j : Nat}
    (h : ¬e.enable = true) : PlanFails prev (e :: plan) (j + 1) ↔ PlanFails prev plan j := by
  simp only [PlanFails, exists_earlier_cons, h, Bool.false_eq_true, false_and, false_or, List.getElem?_cons_succ]

/-- R110: behind an enabled entry that does not fail, its target stands for every one before it. -/
theorem planFails_succ_of_enabled {prev : Option Azimuth} {e : PlanEntry} {plan : List PlanEntry} {j : Nat}
    (h : e.enable = true) (habove : ¬notAbove prev e.target = true) :
    PlanFails prev (e :: plan) (j + 1) ↔ PlanFails (some e.target) plan j := by
  have hprev : ∀ target : Azimuth, notAbove prev target = true ∨ target.toNat ≤ e.target.toNat ↔
      notAbove (some e.target) target = true := fun target => by
    cases prev with
    | none => simp [notAbove]
    | some p =>
      simp only [notAbove, decide_eq_true_eq] at habove ⊢
      omega
  simp only [PlanFails, exists_earlier_cons, h, true_and, List.getElem?_cons_succ, ← or_assoc, ← hprev]

/-- R110: the commit check of the plan finds the first entry that fails. -/
theorem planFailure_eq_some_iff (i : Nat) (prev : Option Azimuth) (plan : List PlanEntry) (k : Nat) :
    planFailure i prev plan = some k ↔ ∃ j, k = i + j ∧ FirstAt (PlanFails prev plan) j := by
  induction plan generalizing i prev k with
  | nil => simp [planFailure, FirstAt, PlanFails]
  | cons e plan ih =>
    unfold planFailure
    by_cases henable : e.enable = true
    · rw [if_pos henable]
      simp only [Bool.or_eq_true, decide_eq_true_eq]
      refine search_eq_some_iff (fun hbad => planFails_zero.mpr ⟨henable, hbad⟩)
        (fun hgood => ⟨fun hfail => hgood (planFails_zero.mp hfail).2, fun k => ?_⟩) k
      obtain ⟨_, habove⟩ := not_or.mp hgood
      simp only [planFails_succ_of_enabled henable habove]
      exact ih (i + 1) (some e.target) k
    · have hlater := search_eq_some_iff (P := PlanFails prev (e :: plan)) (i := i) (c := False) False.elim
        (fun _ => ⟨fun hfail => henable (planFails_zero.mp hfail).1, fun k => by
          simp only [planFails_succ_of_disabled henable]
          exact ih (i + 1) prev k⟩) k
      rw [if_neg henable]
      rwa [if_neg not_false] at hlater

/-- The search from the first entry of a table. -/
theorem exists_zero_add_iff {P : Nat → Prop} {k : Nat} : (∃ j, k = 0 + j ∧ P j) ↔ P k := by simp

/-! ### TABLE_COMMIT and TABLE_CANCEL (R110, R111, R116) -/

theorem cmdTableCommit_singleton (table : Byte) (s : State) :
    cmdTableCommit [table] s =
      match tableOf table.toNat with
      | none => s.refuse .badArgument
      | some t => if tableAbsent s.variant t then s.refuse .notSupported else s.commitTable t := by
  rw [← fieldAt_head table []]
  rfl

theorem cmdTableCancel_singleton (table : Byte) (s : State) :
    cmdTableCancel [table] s =
      match tableOf table.toNat with
      | none => s.refuse .badArgument
      | some t => if tableAbsent s.variant t then s.refuse .notSupported else s.cancelTable t := by
  rw [← fieldAt_head table []]
  rfl

/-- Settles O30: the first failing entries, then the checks of the two commands one after another. -/
theorem commitsAndCancelsOfTables : Obligations.CommitsAndCancelsOfTables := by
  refine ⟨fun b i => ⟨?_, ?_, ?_, ?_, rfl, rfl, rfl, rfl⟩, fun tag table s hs => ?_, fun tag table s hs => ?_⟩
  · rw [commitFailure, Option.ite_none_right_eq_some, Option.some.injEq, eq_comm (a := 2), and_comm]
    rfl
  · simp only [commitFailure, firstFailure_eq_some_iff, exists_zero_add_iff, decide_eq_true_eq]
    rfl
  · rw [commitFailure, Option.ite_none_right_eq_some, Option.some.injEq, eq_comm (a := 0), and_comm]
  · rw [commitFailure, planFailure_eq_some_iff, exists_zero_add_iff]
    simp only [FirstAt, PlanFails, notAbove, Bool.false_eq_true, false_or]
  · intro u answer
    rw [exec_of_reply_at (i := .tableCommit tag [table]) rfl hs (by simp [maxArgs]) (by decide)]
    refine congrArg Host.Outcome.next ?_
    change (cmdTableCommit [table] s.passed).send _ = _
    rw [cmdTableCommit_singleton]
    cases tableOf table.toNat with
    | none => rfl
    | some t =>
      refine Reply.send_ite (tableAbsent_iff _ t) rfl (Reply.send_ite .rfl rfl
        (Reply.send_ite (Tbs.isPending_iff _ t) rfl ?_))
      change Reply.send (match commitFailure s.tbs.staged t with
        | some i => _
        | none => _) _ = _
      cases commitFailure s.tbs.staged t with
      | some i => rfl
      | none =>
        refine Reply.send_ite .rfl ?_ rfl
        rw [State.generationSwitch_tbs]
        rfl
  · intro u answer
    rw [exec_of_reply_at (i := .tableCancel tag [table]) rfl hs (by simp [maxArgs]) (by decide)]
    refine congrArg Host.Outcome.next ?_
    change (cmdTableCancel [table] s.passed).send _ = _
    rw [cmdTableCancel_singleton]
    cases tableOf table.toNat with
    | none => rfl
    | some t =>
      exact Reply.send_ite (tableAbsent_iff _ t) rfl (Reply.send_ite .rfl rfl
        (Reply.send_ite (Tbs.isPending_iff _ t) rfl rfl))

/-! ### Generation switches (R112, R114) -/

/-- R112: the condition of a switch at a boundary notice. -/
theorem State.boundaryNotice_spec (s : State) :
    ((∃ t : TableId, s.tbs.stagedStatus.get t = .pending) → (∀ p ∈ s.emq.queue, p.gen = s.tbs.generation) →
      s.boundaryNotice = s.generationSwitch) ∧
    (¬((∃ t : TableId, s.tbs.stagedStatus.get t = .pending) ∧ ∀ p ∈ s.emq.queue, p.gen = s.tbs.generation) →
      s.boundaryNotice = s) := by
  rw [← Tbs.anyPending_iff]
  rcases s.boundaryNotice_cases with ⟨hpending, hgen, e⟩ | ⟨hnot, e⟩
  · exact ⟨fun _ _ => e, fun h => absurd ⟨hpending, hgen⟩ h⟩
  · refine ⟨fun hpending hgen => ?_, fun _ => e⟩
    rcases hnot with hp | ⟨p, hp, hne⟩
    · rw [hp] at hpending
      cases hpending
    · exact absurd (hgen p hp) hne

/-- R122: a read of the ACTIVE bank between its first and last fetch is split by a switch. -/
theorem Reading.sawSwitch_eq (r : Reading) :
    r.sawSwitch = { r with split := r.split || decide (r.bank = .active ∧ 0 < r.done ∧ r.done < r.count) } := by
  simp only [Reading.sawSwitch, Bool.decide_and, Bool.and_assoc]

/-- R114: a switch, block by block. -/
theorem State.generationSwitch_eq (s : State) :
    s.generationSwitch =
      { s with
        tbs :=
          { s.generationSwitch.tbs with
            generation := s.tbs.generation + 1, protection := s.tbs.protection, grants := s.tbs.grants }
        cmi :=
          { s.cmi with
            reading :=
              s.cmi.reading.map fun r =>
                { r with split := r.split || decide (r.bank = .active ∧ 0 < r.done ∧ r.done < r.count) } }
        flags := s.flags ||| Event.commitDone.bit
        exu := if s.variant = .p4c then { s.exu with seek := true } else s.exu } := by
  have hcmi := s.generationSwitch_cmi
  rw [funext Reading.sawSwitch_eq] at hcmi
  have htbs : s.generationSwitch.tbs =
      { s.generationSwitch.tbs with
        generation := s.tbs.generation + 1, protection := s.tbs.protection, grants := s.tbs.grants } := by
    rw [State.generationSwitch_tbs]
    rfl
  exact State.ext_blocks (by simp) (by simp) (by simp) (by simp) (by simp) (by simp) (by simp) (by simp) htbs
    s.generationSwitch_exu (by simp) (by simp) s.generationSwitch_flags hcmi (by simp) (by simp)

/-- Settles O31: the notice by its two conditions, the switch table by table and block by block. -/
theorem generationSwitchTakesThePendingTables : Obligations.GenerationSwitchTakesThePendingTables := by
  intro s
  obtain ⟨hswitch, hstay⟩ := s.boundaryNotice_spec
  refine ⟨fun hp hg => ⟨hswitch hp hg, congrArg State.settled (hswitch hp hg)⟩,
    fun h => ⟨hstay h, congrArg State.settled (hstay h)⟩, fun t => ?_, ?_, ?_, s.generationSwitch_eq⟩
  · simp only [State.generationSwitch_tbs, Tbs.switch_table, Tbs.switch_activeStatus, Tbs.switch_stagedStatus,
      Tbs.switchedTable, Tbs.isPending_iff, and_self]
  · rw [State.generationSwitch_tbs]
    rfl
  · rw [State.generationSwitch_tbs]
    rfl

end Sys2Proof.Machine
end

section
/-! PROOFS. The protection and the statuses (O32), and the read port (O33). -/

namespace Sys2Proof.Machine

/-! ### The protected set (R117, R123) -/

theorem Protection.covers_iff (p : Protection) (t : TableId) :
    p.covers t = true ↔
      (p.complement = false ∧ p.firstTable ≤ t.number ∧ t.number + 1 ≤ p.firstTable + p.count) ∨
        (p.complement = true ∧ ¬(p.firstTable ≤ t.number ∧ t.number + 1 ≤ p.firstTable + p.count)) := by
  rw [Protection.covers]
  cases p.complement <;>
    simp only [Bool.not_eq_true', decide_eq_false_iff_not, decide_eq_true_eq, Bool.false_eq_true, reduceCtorEq, if_true,
      if_false, true_and, false_and, or_false, false_or, Nat.succ_le_iff]

/-- R117: bit n of the set is table n's (log entry 18). -/
theorem Protection.setByte_getLsbD (p : Protection) (t : TableId) : p.setByte.getLsbD t.number = p.covers t := by
  have hnumber : t.number < 8 := by cases t <;> decide
  have hbits : p.setByte = BitVec.ofNat 8 (BitVec.ofBoolListLE (allTables.map p.covers)).toNat := by
    rw [← one_mul (BitVec.toNat _), ← pow_zero 2, ← sum_bits_eq]
    rfl
  rw [hbits, ofBoolListLE_byte_getLsbD _ hnumber]
  cases t <;> rfl

/-- R124: SET_PROTECT is not taken in FROZEN, nor in LINE with CAL_EN low. -/
theorem ProtectMode.takes_iff (m : ProtectMode) (calEn : Bool) :
    m.takes calEn = true ↔ ¬(m = .frozen ∨ m = .line ∧ calEn = false) := by
  cases m <;> simp [ProtectMode.takes]

/-! ### TABLE_STATE and SET_PROTECT (R103, R117, R124, R194) -/

theorem State.statusBytes_eq (s : State) (t : TableId) :
    s.statusBytes t =
      if s.variant = .p4m ∧ t = .exposurePlan then [0, 0]
      else [byte (s.tbs.activeStatus.get t).code, byte (s.tbs.stagedStatus.get t).code] :=
  if_congr (tableAbsent_iff _ t) rfl rfl

theorem readProtection_of_bytes (first count complement mode : Byte) :
    readProtection [first, count, complement, mode] =
      match flagOf complement.toNat, protectModeOf mode.toNat with
      | some c, some m =>
        if first.toNat ≤ 7 ∧ count.toNat ≤ 8 then
          some { firstTable := first.toNat, count := count.toNat, complement := c, mode := m }
        else none
      | _, _ => none := by
  rw [← fieldAt_head first [count, complement, mode], ← fieldAt_head count [complement, mode],
    ← fieldAt_head complement [mode], ← fieldAt_head mode []]
  rfl

theorem flatMap_allTables {α : Type} (f : TableId → List α) :
    allTables.flatMap f =
      f .rangeConst ++ f .walk ++ f .zonePlan ++ f .echoPolicy ++ f .elevCorr ++ f .azCorr ++ f .facet ++ f .exposurePlan := by
  simp [allTables]

/-- R117: TABLE_STATE taken by the interpreter. -/
theorem State.takeCommand_tableState (s : State) (tag : Byte) :
    s.takeCommand ⟨tag, 0x0B#8, []⟩ =
      s.respond tag 0x0B#8 .ok
        ([s.tbs.generation] ++ allTables.flatMap s.statusBytes ++
          [byte s.tbs.protection.firstTable, byte s.tbs.protection.count, boolByte s.tbs.protection.complement,
            byte s.tbs.protection.mode.code, s.tbs.protection.setByte, boolByte s.pins.calEn]) := rfl

/-- R124, R194: SET_PROTECT taken by the interpreter. -/
theorem State.takeCommand_setProtect (s : State) (tag : Byte) (args : List Byte) (h : args.length = 4) :
    s.takeCommand ⟨tag, 0x0C#8, args⟩ =
      if s.tbs.protection.mode = .frozen ∨ s.tbs.protection.mode = .line ∧ s.pins.calEn = false then
        s.respond tag 0x0C#8 .locked []
      else
        match readProtection args with
        | none => s.respond tag 0x0C#8 .badArgument []
        | some p => State.respond { s with tbs := { s.tbs with protection := p } } tag 0x0C#8 .ok [] := by
  change (Reply.ofLength 4 args s _).send _ = _
  rw [Reply.ofLength, if_pos h, apply_ite (Reply.send · _)]
  by_cases htakes : s.tbs.protection.mode.takes s.pins.calEn = true
  · rw [if_pos htakes, if_neg ((ProtectMode.takes_iff _ _).mp htakes)]
    cases readProtection args <;> rfl
  · rw [if_neg htakes, if_pos (not_not.mp (mt (ProtectMode.takes_iff _ _).mpr htakes))]
    rfl

/-- Log entry 2: a passing frame leaves the levels that its row found. -/
theorem State.passed_withLines_calEn (s : State) (l : Lines) : (s.withLines l).passed.pins.calEn = l.calEn := by
  rw [State.withLines_eq]
  rfl

/-- Settles O32: each command as it is taken, then its delivery at the lines that its row finds. -/
theorem tableStateAndProtection : Obligations.TableStateAndProtection := by
  refine ⟨fun p t => ⟨p.covers_iff t, p.setByte_getLsbD t⟩, State.withLines_eq, fun tag => ?_,
    fun tag first count complement mode => ?_⟩
  · intro status reported
    have htaken : ∀ s : State, s.takeCommand ⟨tag, 0x0B#8, []⟩ = reported s s.pins.calEn := fun s => by
      rw [s.takeCommand_tableState, flatMap_allTables]
      have hstatus : ∀ t : TableId, status s t = s.statusBytes t := fun t => (s.statusBytes_eq t).symm
      simp only [reported, hstatus, List.append_assoc]
    refine ⟨htaken, fun l s hs => ?_⟩
    rw [exec_of_takes s (i := .tableState tag [] l) rfl hs (by simp), htaken]
    exact congrArg (Host.Outcome.next ∘ reported _) (s.passed_withLines_calEn l)
  · intro judged
    have htaken : ∀ s : State, s.takeCommand ⟨tag, 0x0C#8, [first, count, complement, mode]⟩ = judged s s.pins.calEn :=
      fun s => by
        rw [s.takeCommand_setProtect tag _ rfl, readProtection_of_bytes]
        refine if_congr .rfl rfl ?_
        cases flagOf complement.toNat with
        | none => rfl
        | some c =>
          cases protectModeOf mode.toNat with
          | none => rfl
          | some m =>
            by_cases hranges : first.toNat ≤ 7 ∧ count.toNat ≤ 8
            · simp only [if_pos hranges]
            · simp only [if_neg hranges]
    refine ⟨htaken, fun l s hs => ?_⟩
    rw [exec_of_takes s (i := .setProtect tag [first, count, complement, mode] l) rfl hs (by simp [maxArgs]), htaken]
    exact congrArg (Host.Outcome.next ∘ judged _) (s.passed_withLines_calEn l)

/-! ### The read port (R118, R119) -/

/-- A read after `n` fetches in a row from one bank. -/
def Reading.fetches (t : Tbs) (r : Reading) (n : Nat) : Reading := (List.range n).foldl (fun x _ => x.fetch t) r

theorem Reading.fetches_succ (t : Tbs) (r : Reading) (n : Nat) : r.fetches t (n + 1) = (r.fetches t n).fetch t := by
  simp [Reading.fetches, List.range_succ]

theorem Reading.fetches_fetch (t : Tbs) (r : Reading) (n : Nat) : (r.fetch t).fetches t n = r.fetches t (n + 1) := by
  induction n with
  | zero => rfl
  | succ n ih => rw [Reading.fetches_succ, ih, Reading.fetches_succ t r (n + 1)]

/-- R121: each fetch is one entry more, of the same number of entries. -/
theorem Reading.fetches_progress (t : Tbs) (r : Reading) (n : Nat) :
    (r.fetches t n).done = r.done + n ∧ (r.fetches t n).count = r.count := by
  induction n with
  | zero => exact ⟨rfl, rfl⟩
  | succ n ih =>
    obtain ⟨hdone, hcount⟩ := ih
    rw [Reading.fetches_succ]
    exact ⟨congrArg (· + 1) hdone, hcount⟩

/-- The state with another read in execution and another count of pipeline grants. -/
def State.withRead (s : State) (r : Reading) (grants : Nat) : State :=
  { s with cmi := { s.cmi with reading := some r }, tbs := { s.tbs with grants := grants } }

theorem State.withRead_self {s : State} {r : Reading} (h : s.cmi.reading = some r) : s.withRead r s.tbs.grants = s := by
  rw [State.withRead, ← h]

theorem State.commandWaits_withRead (s : State) (r : Reading) (g : Nat) :
    (s.withRead r g).commandWaits = decide (r.done < r.count) := rfl

theorem State.grantCommand_withRead (s : State) {r : Reading} (g : Nat) (h : r.done < r.count) :
    (s.withRead r g).grantCommand = s.withRead (r.fetch s.tbs) 0 := State.grantCommand_of_waits rfl h

/-- R118: a row of grants is some number of fetches, none of them behind the last entry. -/
theorem State.grantCommands_withRead (s : State) (n : Nat) (r : Reading) (g : Nat) (h : r.done ≤ r.count) :
    ∃ m, r.done + m ≤ r.count ∧
      grantCommands n (s.withRead r g) = s.withRead (r.fetches s.tbs m) (if m = 0 then g else 0) := by
  induction n generalizing r g with
  | zero => exact ⟨0, h, rfl⟩
  | succ n ih =>
    unfold grantCommands
    by_cases hwaits : r.done < r.count
    · obtain ⟨m, hm, e⟩ := ih (r.fetch s.tbs) 0 hwaits
      refine ⟨m + 1, by simpa only [Reading.fetch, Nat.add_assoc, Nat.add_comm 1 m] using hm, ?_⟩
      rw [s.grantCommand_withRead g hwaits, e, Reading.fetches_fetch, ite_self, if_neg m.succ_ne_zero]
    · rw [State.grantCommand_of_idle (by simpa [State.commandWaits_withRead] using hwaits)]
      exact ih r g h

/-- R118, log entry 13: a gap with a fetch waiting grants the read a free number of fetches. -/
theorem State.portGap_of_waits {s : State} {r : Reading} (h : s.cmi.reading = some r) (hd : r.done < r.count) :
    ∃ n, r.done + n ≤ r.count ∧
      s.portGap = s.drawFree.withRead (r.fetches s.tbs n) (if n = 0 then s.tbs.grants else 0) := by
  rcases s.portGap_cases with ⟨hidle, _⟩ | ⟨_, n, e⟩
  · rw [s.commandWaits_iff.mpr ⟨r, h, hd⟩] at hidle
    cases hidle
  · obtain ⟨m, hm, hgap⟩ := s.drawFree.grantCommands_withRead n r s.tbs.grants hd.le
    exact ⟨m, hm, e.trans ((congrArg (grantCommands n) (State.withRead_self (s := s.drawFree) h).symm).trans hgap)⟩

/-- R119: below the limit a waiting fetch lets the pipeline go first. -/
theorem State.arbitrate_withRead_of_lt (s : State) {r : Reading} {g : Nat} (h : r.done < r.count) (hg : g < 64) :
    (s.withRead r g).arbitrate = s.withRead r (g + 1) := by
  have hlimit : ¬Config.grantLimit ≤ (s.withRead r g).tbs.grants := Nat.not_le.mpr hg
  rw [State.arbitrate, if_neg hlimit]
  exact if_pos (decide_eq_true h)

/-- R119: at the limit a waiting fetch goes first, and the pipeline grant counts while another one waits. -/
theorem State.arbitrate_withRead_of_ge (s : State) {r : Reading} {g : Nat} (h : r.done < r.count) (hg : 64 ≤ g) :
    (s.withRead r g).arbitrate = s.withRead (r.fetch s.tbs) (if r.done + 1 < r.count then 1 else 0) := by
  have hlimit : Config.grantLimit ≤ (s.withRead r g).tbs.grants := hg
  rw [State.arbitrate, if_pos hlimit, s.grantCommand_withRead g h, apply_ite (s.withRead _)]
  exact if_congr decide_eq_true_iff rfl rfl

/-- R118, R119: a pipeline request with a fetch waiting. -/
theorem State.pipelineRequest_of_waits {s : State} {r : Reading} (h : s.cmi.reading = some r) (hd : r.done < r.count) :
    ∃ n, r.done + n ≤ r.count ∧
      (r.done + n = r.count → s.pipelineRequest = s.drawFree.withRead (r.fetches s.tbs n) 0) ∧
      (r.done + n < r.count → n = 0 →
        s.tbs.grants < 64 ∧ s.pipelineRequest = s.drawFree.withRead (r.fetches s.tbs 0) (s.tbs.grants + 1)) ∧
      (r.done + n < r.count → 0 < n → s.pipelineRequest = s.drawFree.withRead (r.fetches s.tbs n) 1) := by
  obtain ⟨n, hn, hgap⟩ := State.portGap_of_waits h hd
  obtain ⟨hdone, hcount⟩ := r.fetches_progress s.tbs n
  rw [State.pipelineRequest, hgap, State.commandWaits_withRead, hdone, hcount]
  rcases hn.eq_or_lt with hlast | hmore
  · have hpos : n ≠ 0 := by omega
    refine ⟨n, hn, fun _ => ?_, fun hlt => absurd hlast hlt.ne, fun hlt => absurd hlast hlt.ne⟩
    rw [if_neg (by simp [hlast]), if_neg hpos]
  · have hwaits : (r.fetches s.tbs n).done < (r.fetches s.tbs n).count := by omega
    rw [if_pos (decide_eq_true hmore)]
    by_cases hlimit : n = 0 ∧ 64 ≤ s.tbs.grants
    · obtain ⟨rfl, hgrants⟩ := hlimit
      rw [if_pos rfl, State.arbitrate_withRead_of_ge _ hwaits hgrants]
      refine ⟨1, hd, fun hlast => ?_, fun _ hzero => absurd hzero Nat.one_ne_zero, fun hlt _ => ?_⟩
      · rw [if_neg (show ¬(r.fetches s.tbs 0).done + 1 < (r.fetches s.tbs 0).count from hlast.not_lt)]
        rfl
      · rw [if_pos (show (r.fetches s.tbs 0).done + 1 < (r.fetches s.tbs 0).count from hlt)]
        rfl
    · refine ⟨n, hn, fun hlast => absurd hlast hmore.ne, fun _ hzero => ?_, fun _ hpos => ?_⟩
      · subst hzero
        have hgrants : s.tbs.grants < 64 := by omega
        exact ⟨hgrants, by rw [if_pos rfl, State.arbitrate_withRead_of_lt _ hwaits hgrants]⟩
      · rw [if_neg hpos.ne', State.arbitrate_withRead_of_lt _ hwaits (by decide)]

theorem pipelineRequests_succ (n : Nat) (s : State) :
    State.pipelineRequests (n + 1) s = State.pipelineRequests n s.pipelineRequest := by
  cases h : s.commandWaits with
  | true => exact if_pos h
  | false => rw [State.pipelineRequest_of_idle s h, State.pipelineRequests_of_idle s _ h, State.pipelineRequests_of_idle s _ h]

/-! ### TABLE_READ and its fetches (R120, R121) -/

/-- R121: a read with its last entry is answered. -/
theorem State.answerRead_of_done {s : State} {r : Reading} (h : s.cmi.reading = some r) (hd : r.count ≤ r.done) :
    s.answerRead =
      State.respond { s with cmi := { s.cmi with reading := none } } r.tag 0x08#8 .ok
        ([BitVec.ofNat 8 r.table.number, if r.bank = .active then 1 else 0, BitVec.ofNat 8 r.start, BitVec.ofNat 8 r.count,
            r.firstGen, r.lastGen, if r.split then 1 else 0, 0] ++ r.entries) := by
  have hbank : byte r.bank.code = if r.bank = .active then 1 else 0 := by cases r.bank <;> rfl
  rw [State.answerRead, h, ← hbank]
  exact if_pos hd

/-- R184: what becomes of a TABLE_READ, from its request. -/
def State.afterRequest (s : State) (c : Command) : Except ResultCode Reading → State
  | .ok r => s.onCmi fun m => { m with reading := some r }
  | .error result => (s.refuse result).send c

theorem State.takeRead_eq (s : State) (c : Command) : s.takeRead c = s.afterRequest c (readRequest s c.tag c.args) := by
  rw [State.takeRead]
  cases readRequest s c.tag c.args <;> rfl

/-- R120: the request of a read, from its four bytes. -/
theorem readRequest_of_bytes (s : State) (tag table bank start count : Byte) :
    readRequest s tag [table, bank, start, count] =
      match tableOf table.toNat with
      | none => .error .badArgument
      | some t =>
        if s.variant = .p4m ∧ t = .exposurePlan then .error .notSupported
        else
          match readBankOf bank.toNat with
          | none => .error .badArgument
          | some b =>
            if count.toNat = 0 ∨ 32 < count.toNat ∨ t.entries ≤ start.toNat then .error .badArgument
            else
              .ok
                { tag := tag, table := t, bank := b, start := start.toNat, count := count.toNat, done := 0
                  firstGen := s.tbs.generation, lastGen := s.tbs.generation, split := false, entries := [] } := by
  have hfour : ¬[table, bank, start, count].length ≠ 4 := by simp
  rw [readRequest, if_neg hfour]
  simp only [fieldAt_tail, fieldAt_head]
  cases tableOf table.toNat with
  | none => rfl
  | some t =>
    refine if_congr (tableAbsent_iff _ t) rfl ?_
    cases readBankOf bank.toNat with
    | none => rfl
    | some b =>
      by_cases hcount : count.toNat = 0 ∨ 32 < count.toNat
      · simp only [← or_assoc, hcount, true_or, if_true]
      · simp only [← or_assoc, hcount, false_or, if_false]

/-- Settles O33: the port by the number of fetches that a gap grants, the command by its checks, the row by the read. -/
theorem tableReadFetchesAndAnswers : Obligations.TableReadFetchesAndAnswers := by
  refine ⟨fun s => ⟨fun hnone => ?_, rfl, fun n => pipelineRequests_succ n s, fun r h hd => ?_⟩,
    fun tag table bank start count s hs => ?_, fun l s => ?_⟩
  · have hidle : s.commandWaits = false := by rwa [← Bool.not_eq_true, s.commandWaits_iff]
    exact ⟨State.pipelineRequest_of_idle s hidle, State.portGap_of_idle s hidle⟩
  · exact ⟨State.portGap_of_waits h hd, State.pipelineRequest_of_waits h hd⟩
  · intro u answer
    rw [exec_of_takes s (i := .tableRead tag [table, bank, start, count]) rfl hs (by simp [maxArgs])]
    refine congrArg Host.Outcome.next ?_
    change State.takeRead u ⟨tag, 0x08#8, [table, bank, start, count]⟩ = _
    rw [State.takeRead_eq, readRequest_of_bytes]
    cases tableOf table.toNat with
    | none => rfl
    | some t =>
      refine (apply_ite (u.afterRequest _) _ _ _).trans (if_congr .rfl rfl ?_)
      cases readBankOf bank.toNat with
      | none => rfl
      | some b => exact (apply_ite (u.afterRequest _) _ _ _).trans (if_congr .rfl rfl rfl)
  · intro u
    have hexec : exec (.tableReadFetch l) s = .next u.grantCommand.settleRead := rfl
    have hu : u = s.withLines l := rfl
    rw [State.withLines_eq] at hu
    have hcmi : u.cmi = s.cmi := by rw [hu]
    have htbs : u.tbs = s.tbs := by rw [hu]
    refine ⟨fun hnone => ?_, fun r h hd => ?_⟩
    · rw [hexec, State.grantCommand_of_idle (State.commandWaits_of_none u (hcmi ▸ hnone))]
    · intro fetched granted
      have hgrant : u.grantCommand = granted (some fetched) := by
        rw [State.grantCommand_of_waits (hcmi ▸ h) hd, hcmi, htbs]
        rfl
      rw [hexec, hgrant]
      refine ⟨fun hmore => ?_, fun hlast => ?_⟩
      · rw [State.settleRead_of_reading _ (r := fetched) rfl hmore]
      · rw [State.settleRead, State.answerRead_of_done (r := fetched) rfl hlast.ge]

end Sys2Proof.Machine
end

section
/-! PROOFS. Commands taken, queued and refused (O47). -/

namespace Sys2Proof.Machine

/-! ### What a command sees of the link and of the queue (R186) -/

/-- The state with another link and other commands behind the one that is taken. -/
def State.behind (s : State) (hlr : Hlr) (rest : List Command) : State :=
  { s with hlr := hlr, cmi := { s.cmi with queue := rest } }

/-- A reply whose state has another link and other commands behind it. -/
def Reply.behind (r : Reply) (hlr : Hlr) (rest : List Command) : Reply := { r with state := r.state.behind hlr rest }

/-- A choice between values of a function is the function of the choice. -/
theorem ite_commutes {α β : Type} (f : α → β) {c : Prop} [Decidable c] {a b : α} {x y : β} (ha : x = f a) (hb : y = f b) :
    (if c then x else y) = f (if c then a else b) := by rw [ha, hb, apply_ite f]

section Behind
variable (s : State) (hlr : Hlr) (rest : List Command)

/-! ### The blocks' operations -/

theorem State.behind_offer (p : Payload) : (s.behind hlr rest).offer p = (s.offer p).behind hlr rest :=
  ite_commutes (State.behind · hlr rest) rfl rfl

theorem State.behind_offerAnswer (a : Answer) :
    (s.behind hlr rest).offerAnswer a = (s.offerAnswer a).behind hlr rest :=
  ite_commutes (State.behind · hlr rest) rfl rfl

theorem State.behind_closeBatch : (s.behind hlr rest).closeBatch = s.closeBatch.behind hlr rest := by
  unfold State.closeBatch
  rw [show (s.behind hlr rest).rlf = s.rlf from rfl]
  cases s.rlf.batch with
  | nil => rfl
  | cons r rs => exact (s.onRlf fun f => { f with batch := [] }).behind_offer hlr rest _

theorem State.behind_offerMarker (p : Payload) : (s.behind hlr rest).offerMarker p = (s.offerMarker p).behind hlr rest := by
  rw [State.offerMarker, State.offerMarker, State.behind_closeBatch, State.behind_offer]

theorem State.behind_noticeSeek : (s.behind hlr rest).noticeSeek = s.noticeSeek.behind hlr rest :=
  ite_commutes (State.behind · hlr rest) rfl rfl

theorem State.behind_generationSwitch : (s.behind hlr rest).generationSwitch = s.generationSwitch.behind hlr rest := by
  rw [State.generationSwitch, State.generationSwitch, ← State.behind_noticeSeek]
  rfl

theorem State.behind_tryStart : (s.behind hlr rest).tryStart = s.tryStart.behind hlr rest := by
  refine ite_commutes (State.behind · hlr rest) ?_ rfl
  rw [← State.behind_noticeSeek]
  rfl

theorem State.behind_captureAtStop : (s.behind hlr rest).captureAtStop = s.captureAtStop.behind hlr rest :=
  ite_commutes (State.behind · hlr rest) rfl rfl

/-- With no read in execution, the gap before a switch has no fetch to grant. -/
theorem State.behind_stoppedSwitch (h : s.cmi.reading = none) :
    (s.behind hlr rest).stoppedSwitch = s.stoppedSwitch.behind hlr rest := by
  refine ite_commutes (State.behind · hlr rest) ?_ rfl
  rw [State.portGap_of_idle s (s.commandWaits_of_none h),
    State.portGap_of_idle (s.behind hlr rest) (State.commandWaits_of_none _ h), State.behind_generationSwitch]

theorem State.behind_enterStopped (h : s.cmi.reading = none) :
    (s.behind hlr rest).enterStopped = s.enterStopped.behind hlr rest := by
  have hswitch := State.behind_stoppedSwitch ((s.onEmq fun q => { q with run := .stopped }).raise .streamStopped) hlr rest h
  unfold State.enterStopped
  rw [← State.behind_closeBatch, ← State.behind_captureAtStop, ← hswitch]
  rfl

theorem State.behind_doResync (h : s.cmi.reading = none) :
    (s.behind hlr rest).doResync .command = (s.doResync .command).behind hlr rest := by
  have hmark : (s.behind hlr rest).flushAndMark .command = (s.flushAndMark .command).behind hlr rest := by
    rw [State.flushAndMark, State.flushAndMark, ← State.behind_offerMarker]
    rfl
  have hidle : (s.flushAndMark .command).cmi.reading = none := by simpa [State.flushAndMark] using h
  rw [State.doResync_eq, State.doResync_eq, hmark]
  unfold State.endResync
  rw [show ((s.flushAndMark .command).behind hlr rest).emq = (s.flushAndMark .command).emq from rfl]
  cases (s.flushAndMark .command).emq.run with
  | draining => exact State.behind_enterStopped _ hlr rest hidle
  | running => rfl
  | stopped => rfl
  | waiting => rfl

/-! ### The commands -/

variable {s hlr rest}

theorem Reply.behind_send (r : Reply) (c : Command) : (r.behind hlr rest).send c = (r.send c).behind hlr rest :=
  State.behind_offerAnswer _ hlr rest _

theorem Reply.behind_ite {p : Prop} [Decidable p] {a b x y : Reply} (ha : x = a.behind hlr rest)
    (hb : y = b.behind hlr rest) : (if p then x else y) = (if p then a else b).behind hlr rest :=
  ite_commutes (Reply.behind · hlr rest) ha hb

theorem Reply.behind_ofLength {n : Nat} {args : List Byte} {x k : Reply} (h : x = k.behind hlr rest) :
    Reply.ofLength n args (s.behind hlr rest) x = (Reply.ofLength n args s k).behind hlr rest :=
  Reply.behind_ite h rfl

theorem State.behind_commitTable (t : TableId) :
    (s.behind hlr rest).commitTable t = (s.commitTable t).behind hlr rest := by
  refine Reply.behind_ite rfl (Reply.behind_ite rfl ?_)
  rw [show (s.behind hlr rest).tbs = s.tbs from rfl]
  cases commitFailure s.tbs.staged t with
  | some i => rfl
  | none =>
    refine Reply.behind_ite ?_ rfl
    exact congrArg (fun u : State => u.accept [u.tbs.generation, 0])
      (State.behind_generationSwitch (s.onTbs fun b => { b with stagedStatus := b.stagedStatus.set t .pending }) hlr rest)

theorem State.behind_writeTable (t : TableId) (start : Nat) (bytes : List Byte) :
    (s.behind hlr rest).writeTable t start bytes = (s.writeTable t start bytes).behind hlr rest := by
  refine Reply.behind_ite rfl (Reply.behind_ite rfl (Reply.behind_ite rfl (Reply.behind_ite rfl ?_)))
  cases readEntries t start (bytes.length / t.entryLength) 0 bytes <;> rfl

theorem behind_identify (args : List Byte) : cmdIdentify args (s.behind hlr rest) = (cmdIdentify args s).behind hlr rest :=
  Reply.behind_ofLength rfl

theorem behind_readEvents (args : List Byte) :
    cmdReadEvents args (s.behind hlr rest) = (cmdReadEvents args s).behind hlr rest := Reply.behind_ofLength rfl

theorem behind_clearEvents (args : List Byte) :
    cmdClearEvents args (s.behind hlr rest) = (cmdClearEvents args s).behind hlr rest := by
  refine Reply.behind_ofLength ?_
  cases eventSetOf (fieldAt args 0 4) <;> rfl

theorem behind_setParam (args : List Byte) :
    cmdSetParam args (s.behind hlr rest) = (cmdSetParam args s).behind hlr rest := by
  refine Reply.behind_ofLength (Reply.behind_ite rfl (Reply.behind_ite rfl (Reply.behind_ite rfl ?_)))
  rw [show (s.behind hlr rest).params = s.params from rfl]
  cases s.params.write (fieldAt args 0 1) (fieldAt args 1 4) <;> rfl

theorem behind_getParam (args : List Byte) :
    cmdGetParam args (s.behind hlr rest) = (cmdGetParam args s).behind hlr rest :=
  Reply.behind_ofLength (Reply.behind_ite rfl (Reply.behind_ite rfl rfl))

theorem behind_tableWrite (args : List Byte) :
    cmdTableWrite args (s.behind hlr rest) = (cmdTableWrite args s).behind hlr rest := by
  refine Reply.behind_ite rfl ?_
  cases tableOf (fieldAt args 0 1) with
  | none => rfl
  | some t => exact Reply.behind_ite rfl (State.behind_writeTable t _ _)

theorem behind_tableCommit (args : List Byte) :
    cmdTableCommit args (s.behind hlr rest) = (cmdTableCommit args s).behind hlr rest := by
  refine Reply.behind_ofLength ?_
  cases tableOf (fieldAt args 0 1) with
  | none => rfl
  | some t => exact Reply.behind_ite rfl (State.behind_commitTable t)

theorem behind_tableCancel (args : List Byte) :
    cmdTableCancel args (s.behind hlr rest) = (cmdTableCancel args s).behind hlr rest := by
  refine Reply.behind_ofLength ?_
  cases tableOf (fieldAt args 0 1) with
  | none => rfl
  | some t => exact Reply.behind_ite rfl (Reply.behind_ite rfl (Reply.behind_ite rfl rfl))

theorem behind_tableState (args : List Byte) :
    cmdTableState args (s.behind hlr rest) = (cmdTableState args s).behind hlr rest := Reply.behind_ofLength rfl

theorem behind_setProtect (args : List Byte) :
    cmdSetProtect args (s.behind hlr rest) = (cmdSetProtect args s).behind hlr rest := by
  refine Reply.behind_ofLength (Reply.behind_ite ?_ rfl)
  cases readProtection args <;> rfl

theorem behind_start (args : List Byte) : cmdStart args (s.behind hlr rest) = (cmdStart args s).behind hlr rest := by
  refine Reply.behind_ofLength (Reply.behind_ite ?_ rfl)
  exact congrArg (State.accept · []) (State.behind_tryStart (s.onEmq fun q => { q with run := .waiting }) hlr rest)

theorem behind_stop (h : s.cmi.reading = none) (args : List Byte) :
    cmdStop args (s.behind hlr rest) = (cmdStop args s).behind hlr rest := by
  have hstop : (s.behind hlr rest).enterStopped.accept [] = (s.enterStopped.accept []).behind hlr rest :=
    congrArg (State.accept · []) (s.behind_enterStopped hlr rest h)
  refine Reply.behind_ofLength ?_
  rw [show (s.behind hlr rest).emq = s.emq from rfl]
  cases s.emq.run with
  | running => exact Reply.behind_ite hstop rfl
  | waiting => exact hstop
  | stopped => rfl
  | draining => rfl

theorem behind_resync (h : s.cmi.reading = none) (args : List Byte) :
    cmdResync args (s.behind hlr rest) = (cmdResync args s).behind hlr rest :=
  Reply.behind_ofLength (congrArg (State.accept · []) (s.behind_doResync hlr rest h))

theorem behind_triggerSet (args : List Byte) :
    cmdTriggerSet args (s.behind hlr rest) = (cmdTriggerSet args s).behind hlr rest := by
  refine Reply.behind_ofLength ?_
  cases readTrigger args <;> rfl

theorem behind_triggerArm (args : List Byte) :
    cmdTriggerArm args (s.behind hlr rest) = (cmdTriggerArm args s).behind hlr rest :=
  Reply.behind_ofLength (Reply.behind_ite rfl rfl)

theorem behind_triggerRead (args : List Byte) :
    cmdTriggerRead args (s.behind hlr rest) = (cmdTriggerRead args s).behind hlr rest := Reply.behind_ofLength rfl

theorem behind_captureRead (args : List Byte) :
    cmdCaptureRead args (s.behind hlr rest) = (cmdCaptureRead args s).behind hlr rest := by
  refine Reply.behind_ofLength ?_
  rw [show (s.behind hlr rest).tru = s.tru from rfl]
  cases s.tru.capState <;> rfl

/-- R187: a command with arguments where it takes none is refused, whatever it would do. -/
theorem behind_malformed {args : List Byte} (h : args ≠ []) (k l : Reply) :
    Reply.ofLength 0 args (s.behind hlr rest) l = (Reply.ofLength 0 args s k).behind hlr rest := by
  have hlen : ¬args.length = 0 := mt List.eq_nil_of_length_eq_zero h
  rw [Reply.ofLength, Reply.ofLength, if_neg hlen, if_neg hlen]
  rfl

/-- R186: with no read in execution, a command but GET_STATUS and RESET neither sees nor changes the link and the commands
behind it. -/
theorem behind_replyTo (h : s.cmi.reading = none) (c : Command)
    (hc : ¬(c.args = [] ∧ (c.code = 0x02#8 ∨ c.code = 0x14#8))) :
    replyTo c (s.behind hlr rest) = (replyTo c s).behind hlr rest := by
  have hargs : ∀ code : Byte, (code = 0x02#8 ∨ code = 0x14#8) → c.code.toNat = code.toNat → c.args ≠ [] :=
    fun code hcode heq hnil => hc ⟨hnil, by rwa [BitVec.eq_of_toNat_eq heq]⟩
  unfold replyTo
  split
  · exact behind_identify _
  · exact behind_malformed (hargs 0x02#8 (.inl rfl) ‹_›) _ _
  · exact behind_readEvents _
  · exact behind_clearEvents _
  · exact behind_setParam _
  · exact behind_getParam _
  · exact behind_tableWrite _
  · exact behind_tableCommit _
  · exact behind_tableCancel _
  · exact behind_tableState _
  · exact behind_setProtect _
  · exact behind_start _
  · exact behind_stop h _
  · exact behind_resync h _
  · exact behind_triggerSet _
  · exact behind_triggerArm _
  · exact behind_triggerRead _
  · exact behind_captureRead _
  · exact behind_malformed (hargs 0x14#8 (.inr rfl) ‹_›) _ _
  · rfl

theorem State.behind_takeCommand (h : s.cmi.reading = none) (c : Command)
    (hc : ¬(c.args = [] ∧ (c.code = 0x02#8 ∨ c.code = 0x14#8))) :
    (s.behind hlr rest).takeCommand c = (s.takeCommand c).behind hlr rest := by
  refine ite_commutes (State.behind · hlr rest) ?_ ?_
  · have hrequest : readRequest (s.behind hlr rest) c.tag c.args = readRequest s c.tag c.args := rfl
    rw [State.takeRead_eq, State.takeRead_eq, hrequest]
    cases readRequest s c.tag c.args with
    | ok r => rfl
    | error result => exact (s.refuse result).behind_send c
  · rw [behind_replyTo h c hc, Reply.behind_send]

end Behind

/-! ### Delivery (R184, R185) -/

theorem State.atLines_passed_cmi (s : State) (o : Option Lines) : (s.atLines o).passed.cmi = s.cmi := by
  cases o with
  | none => rfl
  | some l => simp only [State.atLines, State.withLines_eq, State.passed]

theorem exec_of_listens {i : Instr} {c : Command} {o : Option Lines} {s : State} (hi : recordOf i = some (.cmd c, o))
    (hs : s.listens) (hl : c.args.length ≤ maxArgs) :
    exec i s = .next ((s.atLines o).passed.deliverCommand c).settleRead := by
  rw [exec_of_recordOf s hi, State.receiveRecord_of_listens _ _ (s.listens_atLines o hs), State.deliver, State.deliverCmd,
    if_pos hl]

/-- A command that is not taken at once joins the tail of the queue while that holds fewer than 4. -/
theorem State.deliverCommand_of_room {s : State} (c : Command) (h : ¬(s.cmi.reading = none ∧ s.cmi.queue = []))
    (hroom : s.cmi.queue.length < 4) :
    s.deliverCommand c = { s with cmi := { s.cmi with queue := s.cmi.queue ++ [c] } } := by
  rcases s.deliverCommand_cases c with ⟨hr, hq, _⟩ | ⟨_, _, e⟩ | ⟨_, hfull, _⟩
  · exact absurd ⟨hr, hq⟩ h
  · exact e
  · exact absurd hroom hfull.not_gt

/-- A command that is not taken at once is answered BUSY while 4 wait. -/
theorem State.deliverCommand_of_full {s : State} (c : Command) (h : ¬(s.cmi.reading = none ∧ s.cmi.queue = []))
    (hfull : 4 ≤ s.cmi.queue.length) : s.deliverCommand c = s.respond c.tag c.code .busy [] := by
  rcases s.deliverCommand_cases c with ⟨hr, hq, _⟩ | ⟨_, hroom, _⟩ | ⟨_, _, e⟩
  · exact absurd ⟨hr, hq⟩ h
  · exact absurd hroom hfull.not_gt
  · exact e

/-! ### The end of a row (R121, R186) -/

theorem State.settleRead_of_idle {s : State} (h : s.cmi.reading = none) : s.settleRead = s.takeQueued := by
  rw [State.settleRead, State.answerRead, h]

theorem State.takeQueued_of_idle {s : State} (h : s.cmi.reading ≠ none ∨ s.cmi.queue = []) : s.takeQueued = s := by
  rcases s.takeQueued_cases with ⟨hnone, hqueue, _⟩ | ⟨_, e⟩
  · exact absurd h (not_or.mpr ⟨not_not.mpr hnone, hqueue⟩)
  · exact e

theorem State.takeQueued_of_queue {s : State} (h : s.cmi.reading = none) (hq : s.cmi.queue ≠ []) :
    ∃ n, s.takeQueued = drainCommands n s.drawFree := by
  rcases s.takeQueued_cases with ⟨_, _, e⟩ | ⟨hidle, _⟩
  · exact e
  · simp [h, hq] at hidle

theorem drainCommands_of_idle {s : State} (n : Nat) (h : s.cmi.reading ≠ none ∨ s.cmi.queue = []) :
    drainCommands n s = s := by
  cases n with
  | zero => rfl
  | succ n =>
    unfold drainCommands
    split
    · next hnone hqueue => simp [hnone, hqueue] at h
    · rfl

theorem drainCommands_succ {s : State} (n : Nat) {c : Command} {rest : List Command} (h : s.cmi.reading = none)
    (hq : s.cmi.queue = c :: rest) :
    drainCommands (n + 1) s = drainCommands n (State.takeCommand { s with cmi := { s.cmi with queue := rest } } c) := by
  rw [drainCommands, h, hq]
  rfl

/-! ### Refusals (R187) -/

theorem replyTo_of_unknown (s : State) (c : Command) (h : c.code.toNat = 0 ∨ 20 < c.code.toNat) :
    replyTo c s = s.refuse .unknownCommand := by
  unfold replyTo
  split
  case h_20 => rfl
  all_goals omega

/-- A command taken at once whose reply is a refusal. -/
theorem exec_of_refusal {i : Instr} {tag code : Byte} {args : List Byte} {o : Option Lines} {s : State}
    {result : ResultCode} (hi : recordOf i = some (commandRecord code tag args, o)) (hs : s.takes)
    (hl : args.length ≤ maxArgs) (hcode : code ≠ tableReadCode)
    (hreply : replyTo ⟨tag, code, args⟩ (s.atLines o).passed = (s.atLines o).passed.refuse result) :
    exec i s = .next ((s.atLines o).passed.respond tag code result []) := by
  rw [exec_of_reply_at hi hs hl hcode, hreply]
  rfl

/-- R187: a command of fixed length with another number of argument bytes. -/
theorem exec_of_malformed {i : Instr} {tag code : Byte} {args : List Byte} {o : Option Lines} {s : State} {n : Nat}
    {k : Reply} (hi : recordOf i = some (commandRecord code tag args, o)) (hs : s.takes) (hl : args.length ≤ maxArgs)
    (hcode : code ≠ tableReadCode)
    (hreply : replyTo ⟨tag, code, args⟩ (s.atLines o).passed = Reply.ofLength n args (s.atLines o).passed k)
    (hn : args.length ≠ n) : exec i s = .next ((s.atLines o).passed.respond tag code .malformed []) :=
  exec_of_refusal hi hs hl hcode (hreply.trans (if_neg hn))

theorem exec_tableRead_of_malformed {tag : Byte} {args : List Byte} {s : State} (hs : s.takes) (hl : args.length ≤ maxArgs)
    (hn : args.length ≠ 4) : exec (.tableRead tag args) s = .next (s.passed.respond tag 0x08#8 .malformed []) := by
  have hrequest : readRequest s.passed tag args = .error .malformed := if_pos hn
  rw [exec_of_takes s (i := .tableRead tag args) rfl hs hl]
  change Host.Outcome.next (s.passed.takeRead ⟨tag, 0x08#8, args⟩) = _
  rw [State.takeRead_eq, hrequest]
  rfl

/-- Settles O47: delivery, the end of a row, commands taken with others behind them, and the refusals. -/
theorem commandsAreTakenQueuedOrRefused : Obligations.CommandsAreTakenQueuedOrRefused := by
  refine ⟨fun i c o s hi hs hl => ?_, fun s => ⟨State.settleRead_of_idle, fun r => s.settleRead_of_reading, ?_,
    State.takeQueued_of_idle, State.takeQueued_of_queue, rfl,
      fun n => ⟨drainCommands_of_idle n, fun c rest => drainCommands_succ n⟩⟩,
    fun s c hlr rest => State.behind_takeCommand (s := { s with cmi := { reading := none, queue := [] } }) rfl c,
    fun tag args s hs hl => ⟨fun code hcode => ?_, ?_, fun hn => ?_, fun l => ?_⟩⟩
  · intro u free
    have hcmi : u.cmi = s.cmi := s.atLines_passed_cmi o
    rw [← hcmi]
    refine ⟨fun hfree => exec_of_takes s hi ⟨hs, hfree⟩ hl, fun hbusy hroom => ?_, fun hbusy hfull => ?_⟩
    · rw [exec_of_listens hi hs hl, State.deliverCommand_of_room c (hcmi ▸ hbusy) hroom]
    · rw [exec_of_listens hi hs hl, State.deliverCommand_of_full c (hcmi ▸ hbusy) hfull]
  · intro r h hd
    rw [State.settleRead, State.answerRead_of_done h hd]
  · have hread : code ≠ tableReadCode := by
      rintro rfl
      revert hcode
      decide
    exact exec_of_refusal (i := .unknownCommand tag code args) rfl hs hl hread (replyTo_of_unknown _ _ hcode)
  · simp only [List.forall_mem_cons]
    refine ⟨?_, ?_, ?_, ?_, ?_, ?_, exec_tableRead_of_malformed hs hl, ?_, ?_, ?_, ?_, ?_, ?_, ?_, ?_, ?_, by simp⟩ <;>
      exact exec_of_malformed (o := none) rfl hs hl (by decide) rfl
  · exact exec_of_refusal (i := .tableWrite tag args) rfl hs hl (by decide) (if_pos hn)
  · exact ⟨exec_of_malformed (i := .tableState tag args l) rfl hs hl (by decide) rfl,
      exec_of_malformed (i := .setProtect tag args l) rfl hs hl (by decide) rfl,
      exec_of_malformed (i := .reset tag args l) rfl hs hl (by decide) rfl⟩

end Sys2Proof.Machine
end

section
/-! PROOFS. The number of an exposure and the exposure itself (O38). -/

namespace Sys2Proof.Machine

/-! ### The numbers held (R133) -/

theorem Exu.holds_iff (x : Exu) (n : BitVec 16) :
    x.holds n = true ↔ (∃ r ∈ x.queue, r.number = n) ∨ ∃ t ∈ x.tiles, t.number = n := by
  simp [Exu.holds]

theorem Exu.holds_iff_mem_numbers (x : Exu) (n : BitVec 16) : x.holds n = true ↔ n ∈ x.numbers := by
  simp [Exu.holds_iff, Exu.numbers]

theorem Exu.numbers_length (x : Exu) : x.numbers.length = x.queue.length + x.tiles.length := by
  simp [Exu.numbers]

/-- R133: the skip passes held numbers alone, and stops at one that is not held or at the end of its fuel. -/
theorem skipHeld_spec (x : Exu) (fuel : Nat) (n : BitVec 16) :
    ∃ k ≤ fuel, skipHeld x fuel n = n + BitVec.ofNat 16 k ∧ (∀ j < k, x.holds (n + BitVec.ofNat 16 j) = true) ∧
      (k < fuel → x.holds (n + BitVec.ofNat 16 k) = false) := by
  induction fuel generalizing n with
  | zero => exact ⟨0, le_rfl, by simp [skipHeld], by simp, by simp⟩
  | succ fuel ih =>
    unfold skipHeld
    split
    · rename_i hheld
      have hshift (j : Nat) : n + 1 + BitVec.ofNat 16 j = n + BitVec.ofNat 16 (j + 1) := by
        rw [Nat.add_comm j 1, BitVec.ofNat_add, BitVec.add_assoc]
        rfl
      obtain ⟨k, hk, heq, hbefore, hstop⟩ := ih (n + 1)
      simp only [hshift] at heq hbefore hstop
      refine ⟨k + 1, by omega, heq, fun j hj => ?_, fun hlt => hstop (by omega)⟩
      cases j with
      | zero => simpa using hheld
      | succ j => exact hbefore j (by omega)
    · exact ⟨0, Nat.zero_le _, by simp, by simp, by simp_all⟩

/-- Numbers at most 2^16 in a row are distinct. -/
theorem ofNat_offsets_nodup (n : BitVec 16) {k : Nat} (hk : k ≤ 2 ^ 16) :
    ((List.range k).map fun j => n + BitVec.ofNat 16 j).Nodup := by
  refine (List.nodup_map_iff_inj_on List.nodup_range).mpr fun a ha b hb h => ?_
  have hab := congrArg BitVec.toNat ((BitVec.add_right_inj _).mp h)
  simp only [List.mem_range, BitVec.toNat_ofNat] at ha hb hab
  omega

/-- R133: more numbers in a row than records and tiles are not all held. -/
theorem Exu.not_all_held (x : Exu) (n : BitVec 16) {k : Nat} (hk : k ≤ 2 ^ 16) (hmore : x.queue.length + x.tiles.length < k) :
    ¬∀ j < k, x.holds (n + BitVec.ofNat 16 j) = true := by
  intro hall
  have hsub : ((List.range k).map fun j => n + BitVec.ofNat 16 j) ⊆ x.numbers := by
    intro m hm
    obtain ⟨j, hj, rfl⟩ := List.mem_map.mp hm
    exact (x.holds_iff_mem_numbers _).mp (hall j (List.mem_range.mp hj))
  have hlength := ((ofNat_offsets_nodup n hk).subperm hsub).length_le
  rw [x.numbers_length, List.length_map, List.length_range] at hlength
  omega

/-- R133: the next number is the first behind the counter that is not held. -/
theorem Exu.nextNumber_spec (x : Exu) (h : x.queue.length + x.tiles.length < 2 ^ 16) :
    ∃ k ≤ x.queue.length + x.tiles.length, x.nextNumber = x.counter + 1 + BitVec.ofNat 16 k ∧
      (∀ j < k, x.holds (x.counter + 1 + BitVec.ofNat 16 j) = true) ∧ x.holds x.nextNumber = false := by
  obtain ⟨k, hk, heq, hbefore, hstop⟩ := skipHeld_spec x (x.queue.length + x.tiles.length) (x.counter + 1)
  refine ⟨k, hk, heq, hbefore, ?_⟩
  unfold Exu.nextNumber
  rw [heq]
  by_contra hheld
  refine x.not_all_held (x.counter + 1) (k := k + 1) (by omega) ?_ fun j hj => ?_
  · by_contra hlt
    exact hheld (hstop (by omega))
  · rcases Nat.lt_succ_iff_lt_or_eq.mp hj with hj | rfl
    · exact hbefore j hj
    · simpa using hheld

/-- R133: no number is held that an exposure takes. -/
theorem Exu.nextNumber_notMem_numbers (x : Exu) (h : x.queue.length + x.tiles.length < 2 ^ 16) :
    x.nextNumber ∉ x.numbers := by
  obtain ⟨_, _, _, _, hfree⟩ := x.nextNumber_spec h
  simpa [← Exu.holds_iff_mem_numbers] using hfree

/-! ### The exposure (R133, R135) -/

/-- An entry of the plan is the same behind a port request. -/
theorem State.pipelineRequest_planEntry (s : State) (i : Nat) : s.pipelineRequest.planEntry i = s.planEntry i := by
  simp [State.planEntry]

theorem State.makeExposure_eq (s : State) (i : Nat) (v : PulseView) :
    s.makeExposure i v =
      State.offer
        { s.pipelineRequest with
          exu :=
            { s.exu with
              counter := s.exu.nextNumber
              queue := s.exu.queue ++ [exposureOf s.exu.nextNumber i (s.planEntry i) v] }
          pins := { s.pins with camTrig := true } }
        (.exp (exposureOf s.exu.nextNumber i (s.planEntry i) v)) := by
  simp [State.makeExposure, State.onExu, State.onPins, State.pipelineRequest_planEntry]

/-- Settles O38: at most 12 numbers are held, so the skip ends at a free one among 13. -/
theorem exposureTakesAFreshNumber : Obligations.ExposureTakesAFreshNumber := by
  refine ⟨fun x hqueue htiles => ?_, fun s i v => s.makeExposure_eq i v⟩
  obtain ⟨k, hk, heq, hbefore, hfree⟩ := x.nextNumber_spec (by omega)
  have hnone : ¬((∃ r ∈ x.queue, r.number = x.nextNumber) ∨ ∃ t ∈ x.tiles, t.number = x.nextNumber) := by
    simp [← x.holds_iff, hfree]
  have hdistance : (x.nextNumber - x.counter).toNat = k + 1 := by
    rw [heq]
    bv_omega
  refine ⟨fun r hr he => hnone (.inl ⟨r, hr, he⟩), fun t ht he => hnone (.inr ⟨t, ht, he⟩), by omega, by omega,
    fun n hn hlt => ?_⟩
  have hheld := hbefore ((n - x.counter).toNat - 1) (by omega)
  rwa [show x.counter + 1 + BitVec.ofNat 16 ((n - x.counter).toNat - 1) = n by bv_omega, x.holds_iff] at hheld

end Sys2Proof.Machine
end

section
/-! PROOFS. The steps that end spans (O36) and the Exposure Unit's work on a pulse (O37). -/

namespace Sys2Proof.Machine

/-! ### Span ends (R142, R143) -/

/-- A target is crossed when the azimuth has reached it and the previous one had not. -/
theorem crossed_iff (x prev now : Azimuth) :
    crossed x prev now = true ↔ (now - x).toNat < 2 ^ 23 ∧ 2 ^ 23 ≤ (prev - x).toNat := by
  simp [crossed, reached]

/-- R142: the reports of the timeouts, one behind the other. -/
theorem reportTimeouts_eq_foldl (rs : List Exposure) (s : State) :
    reportTimeouts rs s = rs.foldl (fun t r => (t.raise .tileTimeout).offer (r.report .timeout)) s := by
  induction rs generalizing s with
  | nil => rfl
  | cons r rest ih => exact ih _

/-- R128: the unit examines ends in RUNNING, on a P4C with CamEnable 1. -/
theorem State.examinesEnds_iff (s : State) :
    s.examinesEnds = true ↔ s.variant = .p4c ∧ s.params.camEnable = true ∧ s.emq.run = .running := by
  simp [State.examinesEnds, State.exposureUnitActs, and_assoc]

/-- R142, R143: the two rows at a pulse that the unit handles. -/
theorem exec_spanEnds_of_examines {s : State} (h : s.examinesEnds = true) (laser : Azimuth) :
    exec (.tileTimeout laser) s = .next (s.timeoutStep laser).settleRead ∧
      exec (.tileRetire laser) s = .next (s.retireStep laser).settleRead :=
  ⟨congrArg State.settled (if_pos h), congrArg State.settled (if_pos h)⟩

/-- Log entry 11: the two rows at a pulse that the unit does not handle. -/
theorem exec_spanEnds_of_not_examines {s : State} (h : ¬s.examinesEnds = true) (laser : Azimuth) :
    exec (.tileTimeout laser) s = .next s.settleRead ∧ exec (.tileRetire laser) s = .next s.settleRead :=
  ⟨congrArg State.settled (if_neg h), congrArg State.settled (if_neg h)⟩

/-- Settles O36: the two steps are the rows' where the unit examines ends, and the rows are idle elsewhere. -/
theorem spanEndsReleaseRecordsAndTiles : Obligations.SpanEndsReleaseRecordsAndTiles := by
  intro laser s acts ended
  have hended (azLo : Azimuth) (span : Nat) : crossedFrom (spanEnd azLo span) s.exu.prevLaser laser = ended azLo span := by
    simp only [ended]
    cases s.exu.prevLaser with
    | none => rfl
    | some prev => exact Bool.eq_iff_iff.mpr ((crossed_iff _ _ _).trans decide_eq_true_iff.symm)
  have hacts : acts ↔ s.examinesEnds = true := s.examinesEnds_iff.symm
  refine ⟨fun h => ?_, fun h => ?_, fun h => exec_spanEnds_of_not_examines (mt hacts.mpr h) laser, rfl⟩
  · rw [(exec_spanEnds_of_examines (hacts.mp h) laser).1, State.timeoutStep, reportTimeouts_eq_foldl]
    simp only [State.onExu, Exposure.endsAt, hended]
    rfl
  · rw [(exec_spanEnds_of_examines (hacts.mp h) laser).2, State.retireStep]
    simp only [State.onExu, hended]

/-! ### The work on a pulse (R128, R129, R147, R149) -/

/-- R128, R149: the unit handles pulses on a P4C with CamEnable 1. -/
theorem State.exposureUnitActs_iff (s : State) :
    s.exposureUnitActs = true ↔ s.variant = .p4c ∧ s.params.camEnable = true := by
  simp [State.exposureUnitActs]

theorem State.exposureWork_of_acts {s : State} (h : s.exposureUnitActs = true) (v : PulseView) :
    s.exposureWork v =
      let lead := s.leadAzimuth v.azimuth
      let worked := (((s.seekPlan lead).comparePlan lead v).timeoutStep v.azimuth).retireStep v.azimuth
      (worked.rememberAzimuths lead v.azimuth, worked.lookupColour v) := if_pos h

/-- R128, R149: on a P4M and with CamEnable 0 there is no work. -/
theorem State.exposureWork_of_idle {s : State} (h : ¬s.exposureUnitActs = true) (v : PulseView) :
    s.exposureWork v = (s, none) := if_neg h

/-! ### The seek (R131) -/

theorem State.seekPlan_of_idle {s : State} (h : s.exu.seek = false) (lead : Azimuth) : s.seekPlan lead = s := by
  simp [State.seekPlan, h]

theorem State.seekPlan_of_pending {s : State} (h : s.exu.seek = true) (lead : Azimuth) :
    s.seekPlan lead =
      { State.pipelineRequests 64 s with
        exu :=
          { s.exu with
            pointer := seekEntry s.tbs.bankActive.exposurePlan lead, prevLead := some lead, seek := false } } := by
  simp [State.seekPlan, h, State.onExu, TableId.entries]

/-- R131: a search's answer over numbered entries: an enabled entry of smallest distance, or none where none is enabled. -/
def IsNearest (lead : Azimuth) (l : List (PlanEntry × Nat)) : Option (Nat × Nat) → Prop
  | none => ∀ x ∈ l, x.1.enable = false
  | some (i, d) =>
    (∃ e, (e, i) ∈ l ∧ e.enable = true ∧ d = seekDistance lead e.target) ∧
      ∀ x ∈ l, x.1.enable = true → d ≤ seekDistance lead x.1.target

/-- An entry that is not enabled, or no nearer, leaves the answer. -/
theorem IsNearest.cons_of_le {lead : Azimuth} {l : List (PlanEntry × Nat)} {i d : Nat} (h : IsNearest lead l (some (i, d)))
    {x : PlanEntry × Nat} (hx : x.1.enable = true → d ≤ seekDistance lead x.1.target) :
    IsNearest lead (x :: l) (some (i, d)) := by
  obtain ⟨⟨e, he, hon⟩, hmin⟩ := h
  exact ⟨⟨e, List.mem_cons_of_mem _ he, hon⟩, List.forall_mem_cons.mpr ⟨hx, hmin⟩⟩

/-- An enabled entry at least as near as every later one is the answer. -/
theorem IsNearest.cons_self {lead : Azimuth} {l : List (PlanEntry × Nat)} {e : PlanEntry} (he : e.enable = true)
    (hl : ∀ x ∈ l, x.1.enable = true → seekDistance lead e.target ≤ seekDistance lead x.1.target) (i : Nat) :
    IsNearest lead ((e, i) :: l) (some (i, seekDistance lead e.target)) :=
  ⟨⟨e, List.mem_cons_self, he, rfl⟩, List.forall_mem_cons.mpr ⟨fun _ => le_rfl, hl⟩⟩

theorem nearestAhead_isNearest (lead : Azimuth) (l : List (PlanEntry × Nat)) :
    IsNearest lead l (nearestAhead lead l) := by
  induction l with
  | nil => simp [nearestAhead, IsNearest]
  | cons x rest ih =>
    obtain ⟨e, i⟩ := x
    unfold nearestAhead
    cases he : e.enable with
    | false =>
      simp only [Bool.false_eq_true, if_false]
      cases hlater : nearestAhead lead rest with
      | none => exact List.forall_mem_cons.mpr ⟨he, (hlater ▸ ih : IsNearest lead rest none)⟩
      | some jd => exact (hlater ▸ ih : IsNearest lead rest (some jd)).cons_of_le (by simp [he])
    | true =>
      simp only [if_true]
      cases hlater : nearestAhead lead rest with
      | none =>
        have hnone : IsNearest lead rest none := hlater ▸ ih
        exact IsNearest.cons_self he (fun x hx hon => by simp [hnone x hx] at hon) i
      | some jd =>
        have hnear : IsNearest lead rest (some jd) := hlater ▸ ih
        dsimp only
        split
        · rename_i hle
          exact IsNearest.cons_self he (fun x hx hon => hle.trans (hnear.2 x hx hon)) i
        · rename_i hlt
          exact hnear.cons_of_le fun _ => (not_le.mp hlt).le

/-- R131: a seek finds an enabled entry of smallest distance. -/
theorem seekEntry_some {plan : List PlanEntry} {lead : Azimuth} {i : Nat} (h : seekEntry plan lead = some i) :
    ∃ e, plan[i]? = some e ∧ e.enable = true ∧
      ∀ f ∈ plan, f.enable = true → seekDistance lead e.target ≤ seekDistance lead f.target := by
  obtain ⟨⟨j, d⟩, hfound, rfl⟩ := Option.map_eq_some_iff.mp h
  have hnear := nearestAhead_isNearest lead plan.zipIdx
  rw [hfound] at hnear
  obtain ⟨⟨e, he, hon, rfl⟩, hmin⟩ := hnear
  refine ⟨e, List.mem_zipIdx_iff_getElem?.mp he, hon, fun f hf hon' => ?_⟩
  obtain ⟨k, hk⟩ := List.mem_iff_getElem?.mp hf
  exact hmin (f, k) (List.mem_zipIdx_iff_getElem?.mpr hk) hon'

/-- R131: a seek finds none where no entry is enabled, and only there. -/
theorem seekEntry_eq_none_iff (plan : List PlanEntry) (lead : Azimuth) :
    seekEntry plan lead = none ↔ ∀ e ∈ plan, e.enable = false := by
  refine ⟨fun h e he => ?_, fun h => ?_⟩
  · have hnear := nearestAhead_isNearest lead plan.zipIdx
    rw [Option.map_eq_none_iff.mp h] at hnear
    obtain ⟨k, hk⟩ := List.mem_iff_getElem?.mp he
    exact hnear (e, k) (List.mem_zipIdx_iff_getElem?.mpr hk)
  · cases hfound : seekEntry plan lead with
    | none => rfl
    | some i =>
      obtain ⟨e, he, hon, _⟩ := seekEntry_some hfound
      simp [h e (List.mem_of_getElem? he)] at hon

/-! ### The next entry (R132) -/

/-- Entry `j` of the plan is enabled. -/
def EnabledAt (plan : List PlanEntry) (j : Nat) : Prop := ∃ e, plan[j]? = some e ∧ e.enable = true

/-- An entry beyond the plan reads as zero, which is not enabled. -/
theorem enabledAt_iff (plan : List PlanEntry) (j : Nat) :
    EnabledAt plan j ↔ (plan.getD j (zeroEntry .exposurePlan)).enable = true := by
  unfold EnabledAt
  rw [List.getD_eq_getElem?_getD]
  cases plan[j]? with
  | none => simp [zeroEntry]
  | some e => simp

theorem nextEnabled_some {plan : List PlanEntry} {i j : Nat} (h : nextEnabled plan i = some j) :
    EnabledAt plan j ∧ ∃ k < 64, j = (i + 1 + k) % 64 ∧ ∀ m < k, ¬EnabledAt plan ((i + 1 + m) % 64) := by
  unfold nextEnabled at h
  rw [List.find?_map] at h
  obtain ⟨k, hk, rfl⟩ := Option.map_eq_some_iff.mp h
  obtain ⟨hon, hlt, hbefore⟩ := List.find?_range_eq_some.mp hk
  refine ⟨(enabledAt_iff _ _).mpr hon, k, List.mem_range.mp hlt, rfl, fun m hm => ?_⟩
  rw [enabledAt_iff]
  simpa [TableId.entries] using hbefore m hm

/-- R132: the wrap visits every entry of the plan. -/
theorem nextEnabled_eq_none_iff {plan : List PlanEntry} {i : Nat} (hi : i < 64) (hplan : plan.length = 64) :
    nextEnabled plan i = none ↔ ∀ j, ¬EnabledAt plan j := by
  refine ⟨fun h j => ?_, fun h => ?_⟩
  · by_cases hj : j < 64
    · unfold nextEnabled at h
      rw [List.find?_map, Option.map_eq_none_iff, List.find?_range_eq_none] at h
      have hoff := h ((j + 63 - i) % 64) (Nat.mod_lt _ (by decide))
      have hwrap : (i + 1 + (j + 63 - i) % 64) % TableId.entries .exposurePlan = j := by
        simp only [TableId.entries]
        omega
      rw [enabledAt_iff]
      simpa [hwrap] using hoff
    · rintro ⟨e, he, _⟩
      simp [List.getElem?_eq_none (hplan.le.trans (not_lt.mp hj))] at he
  · cases hfound : nextEnabled plan i with
    | none => rfl
    | some j => exact absurd (nextEnabled_some hfound).1 (h j)

/-! ### The compare (R132, R134) -/

theorem State.comparePlan_of_prev {s : State} {prev : Azimuth} (h : s.exu.prevLead = some prev) (lead : Azimuth)
    (v : PulseView) :
    s.comparePlan lead v =
      compareTargets prev lead v (s.tbs.bankActive.exposurePlan.countP fun e => e.enable) true s := by
  rw [State.comparePlan, h, List.countP_eq_length_filter]

theorem State.comparePlan_of_none {s : State} (h : s.exu.prevLead = none) (lead : Azimuth) (v : PulseView) :
    s.comparePlan lead v = s := by
  rw [State.comparePlan, h]

theorem compareTargets_of_none {s : State} (h : s.exu.pointer = none) (prev lead : Azimuth) (v : PulseView) (n : Nat)
    (first : Bool) : compareTargets prev lead v (n + 1) first s = s := by
  rw [compareTargets, h]

/-- R132: a target not crossed ends the compare. -/
theorem compareTargets_of_not_crossed {s : State} {i : Nat} (h : s.exu.pointer = some i) {prev lead : Azimuth}
    (hcross : ¬crossed (s.planEntry i).target prev lead = true) (v : PulseView) (n : Nat) (first : Bool) :
    compareTargets prev lead v (n + 1) first s = s.pipelineRequest := by
  rw [compareTargets, h]
  dsimp only
  rw [State.pipelineRequest_planEntry, if_neg hcross]

/-- R133, R134: the work on a crossed target, behind its port request. -/
def State.tryExposure (s : State) (first : Bool) (i : Nat) (v : PulseView) : State :=
  if first = true ∧ s.exu.queue.length < 8 then s.pipelineRequest.makeExposure i v
  else { s.pipelineRequest with flags := s.flags ||| Event.exposureMissed.bit }

theorem State.tryExposure_plan (s : State) (first : Bool) (i : Nat) (v : PulseView) :
    (s.tryExposure first i v).tbs.bankActive = s.tbs.bankActive := by
  unfold State.tryExposure
  split <;> simp

/-- R132: behind a crossed target the pointer goes on to the next enabled entry. -/
theorem compareTargets_of_crossed {s : State} {i : Nat} (h : s.exu.pointer = some i) {prev lead : Azimuth}
    (hcross : crossed (s.planEntry i).target prev lead = true) (v : PulseView) (n : Nat) (first : Bool) :
    compareTargets prev lead v (n + 1) first s =
      compareTargets prev lead v n false
        ((s.tryExposure first i v).onExu fun x =>
          { x with pointer := nextEnabled s.tbs.bankActive.exposurePlan i }) := by
  rw [← s.tryExposure_plan first i v, compareTargets, h]
  dsimp only
  rw [State.pipelineRequest_planEntry, if_pos hcross]
  simp [State.tryExposure, Config.exposureCapacity, State.raise, State.setFlags]

/-- Settles O37: work, seek, search and compare, each from its own lemma. -/
theorem exposureWorkFollowsThePlan : Obligations.ExposureWorkFollowsThePlan := by
  refine ⟨fun s v => ⟨fun hvariant hcam => ?_, fun h => ?_⟩, fun s laser hvariant hcam hrun => ?_, fun s lead => ?_,
    fun plan lead => ?_, fun plan i hi hplan => ?_, fun s lead prev v => ?_⟩
  · exact State.exposureWork_of_acts (s.exposureUnitActs_iff.mpr ⟨hvariant, hcam⟩) v
  · refine State.exposureWork_of_idle (fun hacts => ?_) v
    obtain ⟨hvariant, hcam⟩ := s.exposureUnitActs_iff.mp hacts
    simp [hvariant, hcam] at h
  · exact exec_spanEnds_of_examines (s.examinesEnds_iff.mpr ⟨hvariant, hcam, hrun⟩) laser
  · exact ⟨fun h => State.seekPlan_of_idle h lead, fun h => State.seekPlan_of_pending h lead⟩
  · exact ⟨seekEntry_eq_none_iff plan lead, fun _ h => seekEntry_some h⟩
  · exact ⟨nextEnabled_eq_none_iff hi hplan, fun _ h => nextEnabled_some h⟩
  · refine ⟨fun h => State.comparePlan_of_none h lead v, fun h => State.comparePlan_of_prev h lead v, fun _ => rfl,
      fun n first => ⟨fun h => compareTargets_of_none h prev lead v n first, fun i h => ⟨fun hcross => ?_, fun hcross => ?_⟩⟩⟩
    · exact compareTargets_of_not_crossed h (mt (crossed_iff _ _ _).mp hcross) v n first
    · exact compareTargets_of_crossed h ((crossed_iff _ _ _).mpr hcross) v n first

end Sys2Proof.Machine
end

section
/-! PROOFS. The cell of a covered direction, and the tile that colours a pulse (O39). -/

namespace Sys2Proof.Machine

/-! ### The cell (R144, R145) -/

theorem Tile.covers_iff (t : Tile) (azimuth : Azimuth) (elevation : Int) :
    t.covers azimuth elevation = true ↔
      (azimuth - t.azLo).toNat < t.span ∧ t.elLo ≤ elevation ∧ elevation ≤ t.elHi := decide_eq_true_iff

/-- R145: a place within a width, scaled to `n` parts and floored, is one of the parts. -/
theorem scaled_lt {a width n : Nat} (h : a < width) (hn : 1 ≤ n) : a * n / width < n :=
  Nat.div_lt_of_lt_mul (Nat.mul_lt_mul_of_pos_right h hn)

/-- R145: the same for an elevation in an interval that holds both its ends. -/
theorem scaledElevation_mem {lo hi x : Int} (hlo : lo ≤ x) (hhi : x ≤ hi) {n : Nat} (hn : 1 ≤ n) :
    0 ≤ (x - lo) * (n : Int) / (hi - lo + 1) ∧ ((x - lo) * (n : Int) / (hi - lo + 1)).toNat < n := by
  have hnonneg : 0 ≤ (x - lo) * (n : Int) / (hi - lo + 1) :=
    Int.ediv_nonneg (mul_nonneg (by omega) (by omega)) (by omega)
  have hlt : (x - lo) * (n : Int) / (hi - lo + 1) < n := by
    refine Int.ediv_lt_of_lt_mul (by omega) ?_
    rw [mul_comm (n : Int)]
    exact mul_lt_mul_of_pos_right (by omega) (by omega)
  exact ⟨hnonneg, by omega⟩

/-- A cell of a row and a column stands inside the tile. -/
theorem cellIndex_lt {row rows column cols : Nat} (hrow : row < rows) (hcolumn : column < cols) :
    row * cols + column < cols * rows :=
  calc
    row * cols + column < (row + 1) * cols := by rw [Nat.succ_mul]; omega
    _ ≤ rows * cols := Nat.mul_le_mul_right cols hrow
    _ = cols * rows := Nat.mul_comm rows cols

/-! ### The tile (R144) -/

theorem newerNumber_iff (a b : BitVec 16) : newerNumber a b = true ↔ (a - b).toNat < 2 ^ 15 := decide_eq_true_iff

theorem largestNumber_eq_none_iff (ts : List Tile) : largestNumber ts = none ↔ ts = [] := by
  cases ts with
  | nil => simp [largestNumber]
  | cons t rest =>
    unfold largestNumber
    cases largestNumber rest with
    | none => simp
    | some u => simp only; split <;> simp

theorem largestNumber_some {ts : List Tile} {t : Tile} (h : largestNumber ts = some t) :
    t ∈ ts ∧ ∀ u ∈ ts, u.number.toNat ≤ t.number.toNat := by
  induction ts generalizing t with
  | nil => simp [largestNumber] at h
  | cons x rest ih =>
    unfold largestNumber at h
    cases hrest : largestNumber rest with
    | none =>
      rw [hrest] at h
      cases h
      simp [(largestNumber_eq_none_iff rest).mp hrest]
    | some y =>
      obtain ⟨hmem, hmax⟩ := ih hrest
      rw [hrest] at h
      dsimp only at h
      split at h
      · rename_i hlt
        cases h
        exact ⟨List.mem_cons_self, List.forall_mem_cons.mpr ⟨le_rfl, fun u hu => (hmax u hu).trans hlt.le⟩⟩
      · rename_i hge
        cases h
        exact ⟨List.mem_cons_of_mem _ hmem, List.forall_mem_cons.mpr ⟨not_lt.mp hge, hmax⟩⟩

/-- R144: a tile whose number is newer than every other's. -/
def Newest (ts : List Tile) (t : Tile) : Prop := t ∈ ts ∧ ∀ u ∈ ts, (t.number - u.number).toNat < 2 ^ 15

theorem chooseTile_eq_none_iff (ts : List Tile) : chooseTile ts = none ↔ ts = [] := by
  unfold chooseTile
  cases hfound : ts.find? fun a => ts.all fun b => newerNumber a.number b.number with
  | none => exact largestNumber_eq_none_iff ts
  | some t => simp [List.ne_nil_of_mem (List.mem_of_find?_eq_some hfound)]

/-- R144: the chosen tile is a newest one, or where there is none, one of the largest number. -/
theorem chooseTile_some {ts : List Tile} {t : Tile} (h : chooseTile ts = some t) :
    t ∈ ts ∧ ((∃ u, Newest ts u) → Newest ts t) ∧
      ((¬∃ u, Newest ts u) → ∀ u ∈ ts, u.number.toNat ≤ t.number.toNat) := by
  unfold chooseTile at h
  cases hfound : ts.find? fun a => ts.all fun b => newerNumber a.number b.number with
  | some u =>
    rw [hfound] at h
    cases h
    have hmem := List.mem_of_find?_eq_some hfound
    have hall := List.find?_some hfound
    have hnewest : Newest ts t := ⟨hmem, fun u hu => (newerNumber_iff _ _).mp (List.all_eq_true.mp hall u hu)⟩
    exact ⟨hmem, fun _ => hnewest, fun hnone => absurd ⟨t, hnewest⟩ hnone⟩
  | none =>
    rw [hfound] at h
    obtain ⟨hmem, hmax⟩ := largestNumber_some h
    refine ⟨hmem, fun ⟨u, hu, hnewest⟩ => absurd ?_ (List.find?_eq_none.mp hfound u hu), fun _ => hmax⟩
    exact List.all_eq_true.mpr fun x hx => (newerNumber_iff _ _).mpr (hnewest x hx)

/-- Settles O39: the cell by the two scalings, the colour by the choice among the covering tiles. -/
theorem coveredDirectionsHaveACell : Obligations.CoveredDirectionsHaveACell := by
  refine ⟨fun t azimuth elevation => ⟨t.covers_iff azimuth elevation, fun hcovers hcells hcols hrows => ?_⟩, fun s v => ?_⟩
  · obtain ⟨hspan, hlo, hhi⟩ := (t.covers_iff azimuth elevation).mp hcovers
    obtain ⟨hnonneg, hrow⟩ := scaledElevation_mem hlo hhi hrows
    have hcolumn := scaled_lt hspan hcols
    refine ⟨hnonneg, hrow, hcolumn, ?_⟩
    have hindex := hcells ▸ cellIndex_lt hrow hcolumn
    rw [Tile.cellAt, List.getD_eq_getElem _ _ hindex, List.getElem?_eq_getElem hindex]
  · have hmem (t : Tile) :
        t ∈ s.exu.tiles.filter (fun t => t.covers v.azimuth v.elevation) ↔
          t ∈ s.exu.tiles ∧ t.covers v.azimuth v.elevation = true := List.mem_filter
    simp only [← hmem]
    unfold State.lookupColour
    refine ⟨?_, fun c hc => ?_⟩
    · rw [Option.isSome_map, Option.isSome_iff_ne_none, Ne, chooseTile_eq_none_iff]
      exact ⟨List.exists_mem_of_ne_nil _, fun ⟨_, h⟩ => List.ne_nil_of_mem h⟩
    · obtain ⟨t, ht, rfl⟩ := Option.map_eq_some_iff.mp hc
      obtain ⟨hcovering, hnewest, hlargest⟩ := chooseTile_some ht
      exact ⟨t, hcovering, rfl, rfl, hnewest, hlargest⟩

end Sys2Proof.Machine
end

section
/-! PROOFS. What each operation keeps of exposure numbers, records, tiles and colours, up to an accepted pulse and a TILE (O55). -/

namespace Sys2Proof.Machine

/-! ### The numbers of records and tiles (R133, R136, R139) -/

/-- R133: the Exposure Unit's part of the invariant. -/
def Exu.distinct (x : Exu) : Prop :=
  x.queue.length ≤ Config.exposureCapacity ∧ x.tiles.length ≤ Config.tileCapacity ∧ x.numbers.Nodup

/-- R149: nothing of an exposure stands on a P4M. -/
def State.bare (s : State) : Prop :=
  s.exu.queue = [] ∧ s.exu.tiles = [] ∧ s.pins.camTrig = false ∧ ∀ p ∈ s.emq.queue, p.colour = none

theorem State.exposuresDistinct_iff (s : State) :
    s.exposuresDistinct ↔ s.exu.distinct ∧ (s.variant = .p4m → s.bare) := by
  simp only [State.exposuresDistinct, Exu.distinct, State.bare, and_assoc]

/-- R142, R143: records and tiles may leave. -/
theorem Exu.distinct.of_sublist {x y : Exu} (h : x.distinct) (hqueue : y.queue.Sublist x.queue)
    (htiles : y.tiles.Sublist x.tiles) : y.distinct := by
  obtain ⟨hrecords, hstore, hnumbers⟩ := h
  exact ⟨hqueue.length_le.trans hrecords, htiles.length_le.trans hstore,
    hnumbers.sublist ((hqueue.map _).append (htiles.map _))⟩

/-- R133: a record of the next number joins a queue with room. -/
theorem Exu.distinct.expose {x y : Exu} (h : x.distinct) (hroom : x.queue.length < Config.exposureCapacity) {r : Exposure}
    (hr : r.number = x.nextNumber) (hqueue : y.queue = x.queue ++ [r]) (htiles : y.tiles = x.tiles) : y.distinct := by
  obtain ⟨_, hstore, hnumbers⟩ := h
  have hfree : x.nextNumber ∉ x.numbers := by
    refine x.nextNumber_notMem_numbers ?_
    simp only [Config.exposureCapacity, Config.tileCapacity] at hroom hstore
    omega
  refine ⟨by simpa [hqueue] using hroom, htiles ▸ hstore, ?_⟩
  have hperm : y.numbers.Perm (x.nextNumber :: x.numbers) := by
    simp [Exu.numbers, hqueue, htiles, hr]
  exact hperm.nodup_iff.mpr (List.nodup_cons.mpr ⟨hfree, hnumbers⟩)

/-- R139: the tile of an awaiting record takes its number over from the record, in a store with room. -/
theorem Exu.distinct.store {x : Exu} (h : x.distinct) (hroom : x.tiles.length < Config.tileCapacity) {n : BitVec 16}
    {r : Exposure} (hr : x.awaiting n = some r) {t : Tile} (ht : t.number = r.number) :
    Exu.distinct { x.without r.number with tiles := x.tiles ++ [t] } := by
  obtain ⟨hrecords, _, hnumbers⟩ := h
  obtain ⟨hmem, _⟩ := Exu.awaiting_mem hr
  obtain ⟨a, before, after, _, ha, hqueue, hwithout⟩ :=
    List.exists_of_eraseP (p := fun q : Exposure => decide (q.number = r.number)) hmem (by simp)
  have ha : a.number = r.number := by simpa using ha
  refine ⟨(List.eraseP_sublist.length_le).trans hrecords, by simpa using hroom, ?_⟩
  have hperm : (Exu.numbers { x.without r.number with tiles := x.tiles ++ [t] }).Perm x.numbers := by
    simp only [Exu.numbers, Exu.without, hwithout]
    rw [hqueue]
    simpa [ht, ha] using
      (List.perm_append_singleton r.number (after.map Exposure.number ++ x.tiles.map Tile.number)).append_left
        (before.map Exposure.number)
  exact hperm.nodup_iff.mpr hnumbers

/-! ### Steps that keep the invariant -/

/-- From `s` to `t` the invariant is kept. -/
def Keeps (s t : State) : Prop := s.exposuresDistinct → t.exposuresDistinct

theorem Keeps.refl (s : State) : Keeps s s := id

theorem Keeps.trans {s t u : State} (h : Keeps s t) (k : Keeps t u) : Keeps s u := k ∘ h

theorem Keeps.ite {c : Prop} [Decidable c] {s t u : State} (ht : c → Keeps s t) (hu : ¬c → Keeps s u) :
    Keeps s (if c then t else u) := by
  split
  · exact ht ‹_›
  · exact hu ‹_›

/-- Where no record, no tile and no CAM_TRIG pulse joins, nor on a P4M a colour, the invariant is kept. -/
theorem Keeps.of_fewer {s t : State} (hvariant : t.variant = s.variant) (hqueue : t.exu.queue.Sublist s.exu.queue)
    (htiles : t.exu.tiles.Sublist s.exu.tiles) (hcam : t.pins.camTrig = true → s.pins.camTrig = true)
    (hcolours : s.variant = .p4m → (∀ p ∈ s.emq.queue, p.colour = none) → ∀ p ∈ t.emq.queue, p.colour = none) :
    Keeps s t := by
  unfold Keeps
  rw [s.exposuresDistinct_iff, t.exposuresDistinct_iff]
  rintro ⟨hdistinct, hbare⟩
  refine ⟨hdistinct.of_sublist hqueue htiles, fun hp4m => ?_⟩
  rw [hvariant] at hp4m
  obtain ⟨hnoRecord, hnoTile, hrest, hplain⟩ := hbare hp4m
  rw [hnoRecord] at hqueue
  rw [hnoTile] at htiles
  exact ⟨List.sublist_nil.mp hqueue, List.sublist_nil.mp htiles, by simpa [hrest] using hcam, hcolours hp4m hplain⟩

/-- On a P4C the invariant is the Exposure Unit's part of it. -/
theorem Keeps.of_p4c {s t : State} (hs : s.variant = .p4c) (hvariant : t.variant = s.variant)
    (h : s.exu.distinct → t.exu.distinct) : Keeps s t := by
  unfold Keeps
  rw [s.exposuresDistinct_iff, t.exposuresDistinct_iff, hvariant, hs]
  simpa using h

/-- The records and tiles that the unit holds. -/
def Exu.held (x : Exu) : List Exposure × List Tile := (x.queue, x.tiles)

/-- The invariant is kept where records and tiles stay, with CAM_TRIG, and no pulse joins. The laws of an operation mostly show
by themselves that they do. -/
theorem Keeps.of_subset {s t : State} (hpulses : t.emq.queue ⊆ s.emq.queue) (hvariant : t.variant = s.variant := by simp)
    (hheld : t.exu.held = s.exu.held := by simp) (hcam : t.pins.camTrig = s.pins.camTrig := by simp) : Keeps s t := by
  obtain ⟨hqueue, htiles⟩ := Prod.mk.inj hheld
  exact Keeps.of_fewer hvariant (hqueue ▸ List.Sublist.refl _) (htiles ▸ List.Sublist.refl _) (fun h => hcam ▸ h)
    fun _ hplain p hp => hplain p (hpulses hp)

/-- The invariant is kept where the pulses stay too. -/
theorem Keeps.of_held {s t : State} (hpulses : t.emq.queue = s.emq.queue := by simp)
    (hvariant : t.variant = s.variant := by simp) (hheld : t.exu.held = s.exu.held := by simp)
    (hcam : t.pins.camTrig = s.pins.camTrig := by simp) : Keeps s t :=
  Keeps.of_subset (hpulses ▸ List.Subset.refl _) hvariant hheld hcam

/-- After a reset nothing of an exposure is left (R68, R150, R151). -/
theorem State.exposuresDistinct_of_initial {s : State} (hexu : s.exu = Exu.initial) (hcam : s.pins.camTrig = false)
    (hpulses : s.emq.queue = []) : s.exposuresDistinct := by
  simp [State.exposuresDistinct, hexu, hcam, hpulses, Exu.initial, Exu.numbers]

/-! ### Records and tiles under the operations that make a seek pending (R130) -/

section Held
variable (s : State)

@[simp] theorem State.noticeSeek_held : s.noticeSeek.exu.held = s.exu.held := by
  unfold State.noticeSeek
  split <;> rfl

@[simp] theorem State.generationSwitch_held : s.generationSwitch.exu.held = s.exu.held := by
  simp [State.generationSwitch]

@[simp] theorem State.boundaryNotice_held : s.boundaryNotice.exu.held = s.exu.held := by
  rcases s.boundaryNotice_cases with ⟨_, _, e⟩ | ⟨_, e⟩ <;> simp [e]

@[simp] theorem State.enterStopped_held : s.enterStopped.exu.held = s.exu.held := by
  have hswitch (u : State) : u.stoppedSwitch.exu.held = u.exu.held := by
    rcases u.stoppedSwitch_cases with ⟨_, e⟩ | ⟨_, e⟩ <;> simp [e]
  simp [State.enterStopped, hswitch]

@[simp] theorem State.drainTest_held : s.drainTest.exu.held = s.exu.held := by
  rcases s.drainTest_cases with ⟨_, _, e⟩ | ⟨_, e⟩ <;> simp [e]

@[simp] theorem State.closeHead_held (evicted : Bool) : (s.closeHead evicted).exu.held = s.exu.held := by
  unfold State.closeHead
  split <;> simp

@[simp] theorem State.doResync_held (reason : ResyncReason) : (s.doResync reason).exu.held = s.exu.held := by
  unfold State.doResync State.endResync
  dsimp only
  repeat' split
  all_goals simp

@[simp] theorem State.tryStart_held : s.tryStart.exu.held = s.exu.held := by
  rcases s.tryStart_cases with ⟨_, _, e⟩ | ⟨_, e⟩ <;> simp [e]

/-- R131: a seek moves the plan pointer alone. -/
@[simp] theorem State.seekPlan_held (lead : Azimuth) : (s.seekPlan lead).exu.held = s.exu.held := by
  unfold State.seekPlan
  split <;> simp [Exu.held]

end Held

/-! ### Closing and resyncs -/

theorem State.keeps_pipelineRequest (s : State) : Keeps s s.pipelineRequest :=
  Keeps.of_held

theorem State.keeps_enterStopped (s : State) : Keeps s s.enterStopped :=
  Keeps.of_held (by simp [State.enterStopped_emq])

theorem State.keeps_tryStart (s : State) : Keeps s s.tryStart := by
  refine Keeps.of_held ?_
  rcases s.tryStart_cases with ⟨_, _, e⟩ | ⟨_, e⟩ <;> simp [e]

theorem State.keeps_drainTest (s : State) : Keeps s s.drainTest :=
  Keeps.of_held

/-- R49: the head pulse leaves. -/
theorem State.keeps_closeHead (s : State) (evicted : Bool) : Keeps s (s.closeHead evicted) := by
  refine Keeps.of_subset ?_
  cases h : s.emq.queue with
  | nil => simp [State.closeHead_of_empty s h evicted, h]
  | cons p rest =>
    rw [(State.closeHead_emq s h evicted).1]
    exact List.subset_cons_self p rest

theorem keeps_closeExpired (n : Nat) (s : State) : Keeps s (closeExpired n s) := by
  induction n generalizing s with
  | zero => exact Keeps.refl s
  | succ n ih =>
    unfold closeExpired
    split
    · exact Keeps.refl s
    · exact Keeps.ite (fun _ => (s.keeps_pipelineRequest.trans (State.keeps_closeHead _ _)).trans (ih _))
        fun _ => s.keeps_pipelineRequest

theorem State.keeps_pulseClose (s : State) : Keeps s s.pulseClose := by
  unfold State.pulseClose
  split
  · exact Keeps.refl s
  · exact Keeps.ite (fun _ => s.keeps_pipelineRequest.trans (State.keeps_closeHead _ _)) fun _ => s.keeps_pipelineRequest

/-- R51: every pulse leaves. -/
theorem State.keeps_doResync (s : State) (reason : ResyncReason) : Keeps s (s.doResync reason) :=
  Keeps.of_subset (by simp)

theorem State.keeps_askResync (s : State) (reason : ResyncReason) : Keeps s (s.askResync reason) := by
  rcases s.askResync_cases reason with ⟨_, e⟩ | ⟨_, e⟩ <;> rw [e]
  · exact s.keeps_doResync reason
  · exact Keeps.refl s

/-! ### The tracker -/

theorem State.keeps_setChannel (s : State) (id : ChannelId) (c : Channel) : Keeps s (s.onAnt fun a => a.setChannel id c) :=
  Keeps.of_held

theorem State.keeps_drawFree (s : State) : Keeps s s.drawFree := Keeps.of_held

theorem State.keeps_raise (s : State) (e : Event) : Keeps s (s.raise e) := Keeps.of_held

theorem State.keeps_handleIndex (s : State) (id : ChannelId) (raw : RawCount) : Keeps s (s.handleIndex id raw) := by
  have hant := s.keeps_setChannel id
  exact Keeps.ite (fun _ => ((hant _).trans (State.keeps_raise _ _)).trans (State.keeps_askResync _ _)) fun _ => hant _

theorem State.keeps_handleSample (s : State) (id : ChannelId) (raw : RawCount) : Keeps s (s.handleSample id raw) := by
  have hant := s.keeps_setChannel id
  unfold State.handleSample
  dsimp only
  split
  · exact hant _
  · exact (hant _).trans (State.keeps_raise _ _)
  · exact ((hant _).trans (State.keeps_raise _ _)).trans (State.keeps_askResync _ _)

theorem State.keeps_track (s : State) (mirror azimuth : RawCount) : Keeps s (s.track mirror azimuth).1 := by
  have hport : Keeps s (State.pipelineRequests (trackerRequests s.ant) s) :=
    Keeps.of_held
  have hsamples := (hport.trans (State.keeps_handleSample _ .mirror mirror)).trans
    (State.keeps_handleSample _ .azimuth azimuth)
  exact hsamples.trans (Keeps.of_held rfl rfl rfl rfl)

/-! ### The Exposure Unit's work on a pulse (R128) -/

/-- R133: an exposure on a P4C whose queue has room. -/
theorem State.keeps_makeExposure {s : State} (hp4c : s.variant = .p4c) (hroom : s.exu.queue.length < Config.exposureCapacity)
    (i : Nat) (v : PulseView) : Keeps s (s.makeExposure i v) :=
  Keeps.of_p4c hp4c (by simp) fun h =>
    h.expose (r := exposureOf s.exu.nextNumber i (s.planEntry i) v) hroom rfl (by simp [State.makeExposure_eq])
      (by simp [State.makeExposure_eq])

theorem State.keeps_tryExposure {s : State} (hp4c : s.variant = .p4c) (first : Bool) (i : Nat) (v : PulseView) :
    Keeps s (s.tryExposure first i v) := by
  refine Keeps.ite (fun h => s.keeps_pipelineRequest.trans (State.keeps_makeExposure (by simpa using hp4c) ?_ i v))
    fun _ => Keeps.of_held
  simpa [Config.exposureCapacity] using h.2

theorem State.tryExposure_variant (s : State) (first : Bool) (i : Nat) (v : PulseView) :
    (s.tryExposure first i v).variant = s.variant := by
  unfold State.tryExposure
  split <;> simp

theorem keeps_compareTargets (prev lead : Azimuth) (v : PulseView) (n : Nat) (first : Bool) {s : State}
    (hp4c : s.variant = .p4c) : Keeps s (compareTargets prev lead v n first s) := by
  induction n generalizing s first with
  | zero => exact Keeps.refl s
  | succ n ih =>
    cases hpointer : s.exu.pointer with
    | none =>
      rw [compareTargets_of_none hpointer]
      exact Keeps.refl s
    | some i =>
      by_cases hcross : crossed (s.planEntry i).target prev lead = true
      · rw [compareTargets_of_crossed hpointer hcross]
        have hpoint (u : State) (next : Option Nat) : Keeps u (u.onExu fun x => { x with pointer := next }) :=
          Keeps.of_held rfl rfl rfl rfl
        exact ((State.keeps_tryExposure hp4c first i v).trans (hpoint _ _)).trans
          (ih false ((s.tryExposure_variant first i v).trans hp4c))
      · rw [compareTargets_of_not_crossed hpointer hcross]
        exact s.keeps_pipelineRequest

theorem State.keeps_comparePlan {s : State} (hp4c : s.variant = .p4c) (lead : Azimuth) (v : PulseView) :
    Keeps s (s.comparePlan lead v) := by
  cases hprev : s.exu.prevLead with
  | none =>
    rw [State.comparePlan_of_none hprev]
    exact Keeps.refl s
  | some prev =>
    rw [State.comparePlan_of_prev hprev]
    exact keeps_compareTargets prev lead v _ true hp4c

/-- R142: records leave. -/
theorem State.keeps_timeoutStep (s : State) (laser : Azimuth) : Keeps s (s.timeoutStep laser) :=
  Keeps.of_fewer (by simp) (by rw [State.timeoutStep_exu]; exact List.filter_sublist)
    (by rw [State.timeoutStep_exu]) (by simp) (by simp)

/-- R143: tiles leave. -/
theorem State.keeps_retireStep (s : State) (laser : Azimuth) : Keeps s (s.retireStep laser) :=
  Keeps.of_fewer (by simp) (by rw [State.retireStep_exu]) (by rw [State.retireStep_exu]; exact List.filter_sublist)
    (by simp) (by simp)

theorem State.keeps_exposureWork (s : State) (v : PulseView) : Keeps s (s.exposureWork v).1 := by
  by_cases hacts : s.exposureUnitActs = true
  · rw [State.exposureWork_of_acts hacts]
    have hp4c := (s.exposureUnitActs_iff.mp hacts).1
    have hseek : Keeps s (s.seekPlan (s.leadAzimuth v.azimuth)) :=
      Keeps.of_held
    exact (((hseek.trans (State.keeps_comparePlan (by simpa using hp4c) _ v)).trans (State.keeps_timeoutStep _ _)).trans
      (State.keeps_retireStep _ _)).trans (Keeps.of_held rfl rfl rfl rfl)
  · rw [State.exposureWork_of_idle hacts]
    exact Keeps.refl s

/-- R149: on a P4M no pulse is coloured. -/
theorem State.exposureWork_colour_of_p4m {s : State} (h : s.variant = .p4m) (v : PulseView) :
    (s.exposureWork v).2 = none := by
  rw [State.exposureWork_of_idle (by simp [State.exposureUnitActs_iff, h])]

/-! ### Acceptance (R45 to R47) -/

/-- R46: an eviction lets the head leave. -/
theorem State.keeps_makeRoom (s : State) : Keeps s s.makeRoom := by
  refine Keeps.ite (fun _ => ?_) fun _ => Keeps.refl s
  obtain ⟨first, hevict⟩ := s.evictHead_eq
  rw [hevict]
  have hfirst : Keeps s (if first then s.raise .queueEvict else s) :=
    Keeps.ite (fun _ => s.keeps_raise _) fun _ => Keeps.refl s
  exact ((hfirst.trans (State.keeps_drawFree _)).trans (State.keeps_closeHead _ true)).trans
    (Keeps.of_held rfl rfl rfl rfl)

theorem State.keeps_acceptPulse (s : State) (t : Timestamp) (m : MirrorAngles) (azimuth : Azimuth) :
    Keeps s (s.acceptPulse t m azimuth) := by
  have hwork := s.keeps_makeRoom.trans
    (s.makeRoom.keeps_exposureWork { tFire := t, azimuth := azimuth, elevation := m.elevation })
  refine hwork.trans (Keeps.of_fewer rfl (List.Sublist.refl _) (List.Sublist.refl _) id fun hp4m hplain p hp => ?_)
  rcases List.mem_append.mp hp with hp | hp
  · exact hplain p hp
  · rw [List.mem_singleton.mp hp]
    exact State.exposureWork_colour_of_p4m (by simpa using hp4m) _

theorem State.keeps_judgePulse (s : State) (t : Timestamp) (k : Handoff) : Keeps s (s.judgePulse t k) := by
  rcases s.judgePulse_cases t k with e | e | ⟨m, azimuth, _, _, _, _, _, _, e⟩ <;> rw [e]
  · exact Keeps.refl s
  · exact Keeps.of_held
  · exact s.keeps_acceptPulse t m azimuth

theorem State.keeps_considerPulse (s : State) (t : Timestamp) (k : Handoff) : Keeps s (s.considerPulse t k) := by
  unfold State.considerPulse
  cases s.emq.run with
  | stopped => exact Keeps.refl s
  | draining => exact Keeps.refl s
  | running => exact s.keeps_judgePulse t k
  | waiting => exact Keeps.ite (fun _ => s.keeps_tryStart.trans (State.keeps_judgePulse _ t k)) fun _ => Keeps.refl s

theorem State.keeps_handleFire (s : State) (t : Timestamp) (mirror azimuth : RawCount) :
    Keeps s (s.handleFire t mirror azimuth) := by
  have hpulse := (s.keeps_track mirror azimuth).trans (State.keeps_considerPulse _ t (s.track mirror azimuth).2)
  exact Keeps.ite (fun _ => hpulse.trans Keeps.of_held) fun _ => hpulse

/-! ### Echoes -/

/-- R65: a placement leaves the colour of its pulse. -/
theorem State.keeps_placeEcho {s : State} {a : Acceptable} (h : a.cand.pulse ∈ s.emq.queue) (amplitude : BitVec 12)
    (width : BitVec 10) : Keeps s (s.placeEcho a amplitude width) := by
  refine Keeps.of_fewer (by simp) (by simp) (by simp) (by simp) fun _ hplain p hp => ?_
  rw [State.placeEcho_eq] at hp
  rcases List.mem_or_eq_of_mem_set hp with hp | rfl
  · exact hplain p hp
  · obtain ⟨es, o, hfixed⟩ := a.cand.pulse.place_fixed s.eca.free (s.bankFor a.cand.pulse).policy.maxEchoes
      { amplitude := amplitude, width := width, range := a.range.toNat, zone := a.cand.zone }
    rw [hfixed]
    exact (hplain _ h : a.cand.pulse.colour = none)

theorem State.keeps_assignEcho {s u : State} {te : Timestamp} {amp : Nat} {a : Acceptable} (h : a ∈ s.acceptables te amp)
    (hemq : u.emq = s.emq) (amplitude : BitVec 12) (width : BitVec 10) : Keeps u (u.assignEcho a amplitude width) := by
  have hmem : a.cand.pulse ∈ u.emq.queue := by
    rw [hemq]
    exact List.mem_of_getElem? (s.candidates_mem (s.acceptables_mem h).1).1
  refine Keeps.trans ?_ (State.keeps_placeEcho (by simpa using hmem) amplitude width)
  exact Keeps.of_held

theorem State.keeps_decideEcho (s : State) (te : Timestamp) (amplitude : BitVec 12) (width : BitVec 10) :
    Keeps s (s.decideEcho te amplitude width) := by
  have hcount : Keeps s (s.onEca fun e => { e with ambiguous := e.ambiguous + 1 }) := Keeps.of_held
  rcases s.decideEcho_cases te amplitude width with ⟨_, e⟩ | ⟨a, ha, e⟩ | ⟨a, b, rest, c, ha, hc, e⟩ | ⟨a, b, rest, _, _, e⟩ <;>
    rw [e]
  · exact Keeps.of_held
  · exact State.keeps_assignEcho (ha ▸ List.mem_singleton_self a) rfl amplitude width
  · exact hcount.trans (State.keeps_assignEcho (ha ▸ State.resolve_mem _ hc) rfl amplitude width)
  · exact hcount.trans (State.keeps_raise _ _)

theorem State.keeps_handleEcho (s : State) (te : Timestamp) (amplitude : BitVec 12) (width : BitVec 10) :
    Keeps s (s.handleEcho te amplitude width) := by
  have hport : Keeps s (State.pipelineRequests (s.echoRequests te amplitude.toNat) s) :=
    Keeps.of_held
  have hecho := hport.trans (State.keeps_decideEcho _ te amplitude width)
  unfold State.handleEcho
  cases s.emq.run with
  | running => exact hecho
  | draining => exact hecho
  | stopped => exact Keeps.refl s
  | waiting => exact Keeps.refl s

/-! ### TILE records (R137 to R141) -/

/-- R137 to R140: a TILE at a P4C: its record leaves the queue, and its tile is stored where there is room. -/
theorem State.keeps_handleTile {s : State} (hp4c : s.variant = .p4c) (n : BitVec 16) (status : TileStatus)
    (cols rows : Nat) (cells : List Rgb) : Keeps s (s.handleTile n status cols rows cells) := by
  refine Keeps.of_p4c hp4c (by simp) fun h => ?_
  have hleaves (r : Exposure) : (s.exu.without r.number).distinct :=
    h.of_sublist List.eraseP_sublist (List.Sublist.refl _)
  obtain ⟨hnone, hsome⟩ := s.handleTile_spec n status cols rows cells
  cases hr : s.exu.awaiting n with
  | none => simpa [hnone hr, State.tileUnmatched] using h
  | some r =>
    obtain ⟨hfailed, hbusy, hstored, hdrops⟩ := hsome r hr
    cases status with
    | failed => simpa [hfailed rfl, State.tileFails] using hleaves r
    | busy => simpa [hbusy rfl, State.tileFails] using hleaves r
    | ok =>
      by_cases hroom : s.exu.tiles.length < 4
      · rw [hstored rfl hroom, State.tileStored]
        simpa using h.store hroom hr (t := tileOf r cols rows cells) rfl
      · simpa [hdrops rfl (not_lt.mp hroom), State.tileDrops] using hleaves r

/-- R149: a P4M refuses every TILE. -/
theorem State.keeps_deliverTile (s : State) (n : BitVec 16) (status : TileStatus) (cols rows : Byte) (cells : List Rgb) :
    Keeps s (s.deliverTile n status cols rows cells) :=
  Keeps.ite (fun h => State.keeps_handleTile h.1 n status _ _ cells) fun _ => Keeps.of_held

end Sys2Proof.Machine
end

section
/-! PROOFS. Commands, records, rows and steps keep exposures within capacity and distinct (O55). -/

namespace Sys2Proof.Machine

/-! ### Commands -/

/-- R187: a command refused for its length changes nothing. -/
theorem Keeps.ofLength {s : State} {k : Reply} (h : Keeps s k.state) (n : Nat) (args : List Byte) :
    Keeps s (Reply.ofLength n args s k).state := by
  unfold Reply.ofLength
  split
  · exact h
  · exact Keeps.refl s

theorem State.keeps_generationSwitch (s : State) : Keeps s s.generationSwitch := Keeps.of_held

theorem State.keeps_takeCommit (s : State) (t : TableId) : Keeps s (s.takeCommit t).state := by
  have hmark : Keeps s (s.onTbs fun b => { b with stagedStatus := b.stagedStatus.set t .pending }) := Keeps.of_held
  unfold State.takeCommit
  dsimp only
  split
  · exact hmark.trans (State.keeps_generationSwitch _)
  · exact hmark

theorem State.keeps_tableCommit (s : State) (args : List Byte) : Keeps s (cmdTableCommit args s).state := by
  refine Keeps.ofLength ?_ 1 args
  unfold State.commitTable
  repeat' split
  case h_2 => exact s.keeps_takeCommit _
  all_goals exact Keeps.refl s

/-- R40 to R43, R52: a turn of the run state alone. -/
theorem State.keeps_turn (s : State) (r : RunState) : Keeps s (s.onEmq fun q => { q with run := r }) := Keeps.of_held

theorem State.keeps_start (s : State) (args : List Byte) : Keeps s (cmdStart args s).state := by
  refine Keeps.ofLength ?_ 0 args
  split
  · exact (s.keeps_turn .waiting).trans (State.keeps_tryStart _)
  · exact Keeps.refl s

theorem State.keeps_stop (s : State) (args : List Byte) : Keeps s (cmdStop args s).state := by
  refine Keeps.ofLength ?_ 0 args
  cases s.emq.run with
  | running =>
    dsimp only
    split
    · exact s.keeps_enterStopped
    · exact s.keeps_turn .draining
  | waiting => exact s.keeps_enterStopped
  | stopped => exact Keeps.refl s
  | draining => exact Keeps.refl s

theorem State.keeps_resync (s : State) (args : List Byte) : Keeps s (cmdResync args s).state :=
  Keeps.ofLength (s.keeps_doResync .command) 0 args

theorem State.keeps_reset (s : State) (args : List Byte) : Keeps s (cmdReset args s).state :=
  Keeps.ofLength (fun _ => State.exposuresDistinct_of_initial rfl rfl rfl) 0 args

/-- R187: what a command other than TABLE_READ does. -/
theorem State.keeps_replyTo (s : State) (c : Command) : Keeps s (replyTo c s).state := by
  refine replyTo_cases s c (fun r => Keeps s r.state) ?_ ?_ ?_ ?_ ?_ ?_ ?_ (s.keeps_tableCommit c.args) ?_ ?_ ?_
    (s.keeps_start c.args) (s.keeps_stop c.args) (s.keeps_resync c.args) ?_ ?_ ?_ ?_ (s.keeps_reset c.args)
    (Keeps.refl s) <;>
    exact Keeps.of_held

/-- R188: sending an answer leaves what the reply has done. -/
theorem Keeps.send {s : State} {r : Reply} (h : Keeps s r.state) (c : Command) : Keeps s (r.send c) :=
  h.trans Keeps.of_held

theorem State.keeps_takeCommand (s : State) (c : Command) : Keeps s (s.takeCommand c) := by
  rcases s.takeCommand_cases c with ⟨r, _, _, e⟩ | ⟨x, _, _, e⟩ | ⟨_, e⟩ <;> rw [e]
  · exact Keeps.of_held
  · exact Keeps.send (r := s.refuse x) (Keeps.refl s) c
  · exact (s.keeps_replyTo c).send c

theorem State.keeps_deliverCommand (s : State) (c : Command) : Keeps s (s.deliverCommand c) := by
  rcases s.deliverCommand_cases c with ⟨_, _, e⟩ | ⟨_, _, e⟩ | ⟨_, _, e⟩ <;> rw [e]
  · exact s.keeps_takeCommand c
  · exact Keeps.of_held
  · exact Keeps.send (r := s.refuse .busy) (Keeps.refl s) c

theorem keeps_drainCommands (n : Nat) (s : State) : Keeps s (drainCommands n s) := by
  induction n generalizing s with
  | zero => exact Keeps.refl s
  | succ n ih =>
    unfold drainCommands
    split
    · rename_i c rest _ _
      have hqueue : Keeps s (s.onCmi fun m => { m with queue := rest }) := Keeps.of_held
      exact (hqueue.trans (State.keeps_takeCommand _ c)).trans (ih _)
    · exact Keeps.refl s

/-- R121, R186: the end of a row. -/
theorem State.keeps_settleRead (s : State) : Keeps s s.settleRead := by
  have hanswer : Keeps s s.answerRead := by
    rcases s.answerRead_cases with ⟨r, _, _, e⟩ | ⟨_, e⟩ <;> rw [e]
    · exact Keeps.of_held
    · exact Keeps.refl s
  unfold State.settleRead
  rcases s.answerRead.takeQueued_cases with ⟨_, _, n, e⟩ | ⟨_, e⟩ <;> rw [e]
  · exact (hanswer.trans (State.keeps_drawFree _)).trans (keeps_drainCommands n _)
  · exact hanswer

/-! ### Records and frames -/

theorem State.keeps_batchAgeTest (s : State) : Keeps s s.batchAgeTest := Keeps.of_held

theorem State.keeps_rejectFrame (s : State) : Keeps s s.rejectFrame := Keeps.of_held rfl rfl rfl rfl

/-- R2 to R4: the link's own update. -/
theorem State.keeps_onHlr (s : State) (f : Hlr → Hlr) : Keeps s (s.onHlr f) := Keeps.of_held

/-- Section 1.5: where every handling of a record keeps the invariant, the record does. -/
theorem State.keeps_timed (s : State) (t : Timestamp) {handle : State → State} (hk : ∀ u : State, Keeps u (handle u)) :
    Keeps s (s.timed t handle) := by
  have htime : Keeps s (s.setTime t) := s.keeps_onHlr _
  have hadvance : Keeps s (s.advance t) :=
    (htime.trans (keeps_closeExpired _ _)).trans (State.keeps_batchAgeTest (s.setTime t).closing)
  rcases s.timed_cases t handle with ⟨_, e⟩ | ⟨_, e⟩ | ⟨_, e⟩ | ⟨_, e⟩ <;> rw [e]
  · exact hadvance.trans (hk _)
  · exact hk s
  · exact hk s
  · exact htime.trans (State.keeps_askResync _ .timeJump)

/-- Section 1.4: a delivered record of any kind. -/
theorem State.keeps_deliver (s : State) (r : Record) : Keeps s (s.deliver r) := by
  cases r with
  | fire t m a => exact s.keeps_timed t fun u => u.keeps_handleFire t m a
  | echo t a w => exact s.keeps_timed t fun u => u.keeps_handleEcho t a w
  | tick t => exact s.keeps_timed t Keeps.refl
  | index c raw => exact s.keeps_handleIndex c raw
  | tile n st cols rows cells => exact s.keeps_deliverTile n st cols rows cells
  | cmd c => exact Keeps.ite (fun _ => s.keeps_deliverCommand c) fun _ => s.keeps_rejectFrame

theorem State.keeps_classified (s : State) (kind : Byte) (payload : List Byte) : Keeps s (s.classified kind payload) := by
  unfold State.classified
  split
  · exact s.keeps_deliver _
  · exact s.keeps_rejectFrame

/-- R4: the loss of the link asks for a resync. -/
theorem State.keeps_frameFails (s : State) : Keeps s s.frameFails := by
  have hraise := s.keeps_raise .linkCrc
  unfold State.frameFails
  split
  · exact s.keeps_onHlr _
  · refine Keeps.ite (fun _ => hraise.trans (State.keeps_onHlr _ _)) fun _ => ?_
    exact ((hraise.trans (State.keeps_raise _ .linkLost)).trans (State.keeps_onHlr _ _)).trans
      (State.keeps_askResync _ .linkLost)

theorem State.keeps_receiveBytes (s : State) (bytes : List Byte) : Keeps s (s.receiveBytes bytes) := by
  have hpassed : Keeps s s.passed := Keeps.of_held
  rcases s.receiveBytes_cases bytes with ⟨_, e⟩ | ⟨_, _, e⟩ | ⟨_, _, _, e⟩ | ⟨_, kind, payload, _, e⟩ <;> rw [e]
  · exact Keeps.refl s
  · exact s.keeps_frameFails
  · exact s.keeps_onHlr _
  · exact hpassed.trans (State.keeps_classified _ kind payload)

theorem State.keeps_receiveRecord (s : State) (r : Record) : Keeps s (s.receiveRecord r) := by
  have hpassed : Keeps s s.passed := Keeps.of_held
  rcases s.receiveRecord_cases r with ⟨_, e⟩ | ⟨_, _, e⟩ | ⟨_, e⟩ <;> rw [e]
  · exact Keeps.refl s
  · exact s.keeps_onHlr _
  · exact hpassed.trans (State.keeps_deliver _ r)

/-! ### Rows and steps -/

/-- The input lines leave CAM_TRIG, an output. -/
theorem State.keeps_withLines (s : State) (l : Lines) : Keeps s (s.withLines l) := by
  rw [s.withLines_eq l]
  exact Keeps.of_held rfl rfl rfl rfl

theorem State.keeps_atLines (s : State) (o : Option Lines) : Keeps s (s.atLines o) := by
  cases o with
  | none => exact Keeps.refl s
  | some l => exact s.keeps_withLines l

/-- A row that ends by settling the read. -/
theorem Keeps.settled {s u t : State} (h : Keeps s u) (he : u.settled = .next t) : Keeps s t := by
  cases he
  exact h.trans u.keeps_settleRead

theorem exec_keeps {i : Instr} {s t : State} (he : exec i s = .next t) : Keeps s t := by
  cases hr : recordOf i with
  | some ro =>
    obtain ⟨r, o⟩ := ro
    rw [exec_of_recordOf s hr] at he
    exact ((s.keeps_atLines o).trans (State.keeps_receiveRecord _ r)).settled he
  | none =>
    cases i
    case powerOnReset l => cases he; exact fun _ => State.exposuresDistinct_of_initial rfl rfl rfl
    case lineReset => cases he; exact fun _ => State.exposuresDistinct_of_initial rfl rfl rfl
    case resetNRelease l =>
      cases he
      have hrelease : Keeps s (s.onPins fun p => { p with resetHeld := false }) := Keeps.of_held
      exact hrelease.trans (State.keeps_withLines _ l)
    case frameCheckFail bytes => exact (s.keeps_receiveBytes bytes).settled he
    case huntFrame bytes => exact (s.keeps_receiveBytes bytes).settled he
    case frameRefused bytes => exact (s.keeps_receiveBytes bytes).settled he
    case tableReadFetch l =>
      have hgrant : Keeps (s.withLines l) (s.withLines l).grantCommand := Keeps.of_held
      exact ((s.keeps_withLines l).trans hgrant).settled he
    case pulseClose => exact s.keeps_pulseClose.settled he
    case batchFlush => exact s.keeps_batchAgeTest.settled he
    case l2WindowEnd => exact (Keeps.ite (fun _ => Keeps.of_held) fun _ => Keeps.refl s).settled he
    case captureFull => exact (Keeps.ite (fun _ => Keeps.of_held) fun _ => Keeps.refl s).settled he
    case tileTimeout laser => exact (Keeps.ite (fun _ => s.keeps_timeoutStep laser) fun _ => Keeps.refl s).settled he
    case tileRetire laser => exact (Keeps.ite (fun _ => s.keeps_retireStep laser) fun _ => Keeps.refl s).settled he
    case generationSwitch =>
      have hnotice : Keeps s s.boundaryNotice := Keeps.of_held
      exact hnotice.settled he
    case streamStarted => exact s.keeps_tryStart.settled he
    case drainEnd => exact s.keeps_drainTest.settled he
    case recReadyRise =>
      have hrise : Keeps s (s.onPins fun p => { p with recReady := true }).tryDepart := Keeps.of_held
      exact hrise.settled he
    case frameDepartureEnd l =>
      have hl := s.keeps_withLines l
      have hend : Keeps (s.withLines l) (s.withLines l).endDeparture := Keeps.of_held
      exact (Keeps.ite (fun _ => hl.trans hend) fun _ => hl).settled he
    case rspWaitAdmit =>
      have hadmit : Keeps s s.admitAnswers := Keeps.of_held
      exact hadmit.settled he
    case camTrigPulseEnd =>
      have hrest : Keeps s (s.onPins fun p => { p with camTrig := false }) :=
        Keeps.of_fewer rfl (List.Sublist.refl _) (List.Sublist.refl _) (by simp) fun _ => id
      exact hrest.settled he
    all_goals cases hr

/-- Settles O55: every row and the idle step keep the invariant; the row's removal from the queue of commands leaves it. -/
theorem exposuresStayDistinct : Obligations.ExposuresStayDistinct := by
  intro s t h hstep
  unfold step at hstep
  split at hstep
  · cases hstep
    exact keeps_drainCommands 1 s h
  · rename_i i rest _
    have hdequeue : Keeps s { s with pending := rest } := Keeps.of_held rfl rfl rfl rfl
    exact (hdequeue.trans (exec_keeps hstep)) h

end Sys2Proof.Machine
end

section
/-! PROOFS. The invariant of the Trigger Unit, item by item (O56). -/

namespace Sys2Proof.Machine

/-- Section 8.1: the values of the Trigger Unit's items. -/
structure Tru.InLimits (t : Tru) : Prop where
  window : t.windowFits
  capture : t.captureFits
  limit : 1 ≤ t.config.l2Window ∧ t.config.l2Window ≤ 65535
  markCount : t.config.markCount ≤ 255
  marks : t.marks ≤ 255
  hits : t.hits ≤ 65535
  history : t.history.length ≤ Config.historyCapacity
  off : t.state = .off → t.history = []

theorem Tru.consistent_iff (t : Tru) : t.consistent ↔ t.InLimits :=
  ⟨fun ⟨window, capture, limit, markCount, marks, hits, history, off⟩ =>
      { window, capture, limit, markCount, marks, hits, history, off },
    fun h => ⟨h.window, h.capture, h.limit, h.markCount, h.marks, h.hits, h.history, h.off⟩⟩

end Sys2Proof.Machine
end

section
/-! PROOFS. The tests of the Trigger Unit (O42) and the passage of a record through it (O43). -/

namespace Sys2Proof.Machine

/-! ### Conditions (R153) -/

/-- The range and the amplitude of a record as a condition tests them; a MISS record meets the least demanding tests alone. -/
def Condition.measures (c : Condition) (r : PointRecord) : Prop :=
  match r.echo with
  | some e => c.rangeLo ≤ e.range ∧ e.range ≤ c.rangeHi ∧ c.amplitudeMin ≤ e.amplitude.toNat
  | none => c.rangeLo = 0 ∧ c.rangeHi = 2 ^ 28 - 1 ∧ c.amplitudeMin = 0

/-- R153, tests 1, 2 and 5. -/
theorem Condition.measures_iff (c : Condition) (r : PointRecord) :
    c.measures r ↔ (c.rangeTest r && c.amplitudeTest r) = true := by
  unfold Condition.measures Condition.rangeTest Condition.amplitudeTest
  cases r.echo <;> simp [and_assoc]

/-- Two bytes agree under a mask where they have the same bit at each place that the mask names. -/
theorem and_mask_eq_iff (a b mask : Byte) :
    a &&& mask = b &&& mask ↔ ∀ n : Nat, n < 8 → mask.getLsbD n = true → a.getLsbD n = b.getLsbD n := by
  refine ⟨fun h n _ hmask => ?_, fun h => BitVec.eq_of_getLsbD_eq fun n hn => ?_⟩
  · simpa [hmask] using congrArg (BitVec.getLsbD · n) h
  · cases hmask : mask.getLsbD n with
    | false => simp [hmask]
    | true => simp [hmask, h n hn hmask]

/-- R153, test 3: each flag that the mask names, MARK as clear. -/
theorem Condition.flagTest_iff (c : Condition) (r : PointRecord) :
    c.flagTest r = true ↔
      ∀ n : Nat, n < 8 → c.flagMask.getLsbD n = true →
        [r.miss, r.trimmed, r.echoOverflow, r.evicted, r.elevHeld, r.azHeld, false, r.hasColour].getD n false =
          c.flagValue.getLsbD n := by
  rw [Condition.flagTest, decide_eq_true_iff, and_mask_eq_iff]
  refine forall_congr' fun n => forall_congr' fun hn => ?_
  rw [PointRecord.flagsByte_getLsbD _ hn]
  rfl

theorem Condition.indexTest_iff (c : Condition) (r : PointRecord) :
    c.indexTest r = true ↔ c.echoIndex = 0 ∨ c.echoIndex = r.echoIndex := decide_eq_true_iff

theorem Condition.meets_iff (c : Condition) (r : PointRecord) :
    c.meets r = true ↔ c.measures r ∧ c.flagTest r = true ∧ c.indexTest r = true := by
  simp only [Condition.meets, c.measures_iff, Bool.and_eq_true, and_assoc]

/-! ### The test of a record (R154, item 1) -/

/-- The test changes the state and the window alone. -/
theorem Tru.test_eq (t : Tru) (r : PointRecord) :
    (t.test r).1 = { t with state := (t.test r).1.state, window := (t.test r).1.window } := by
  rcases t.test_cases r with ⟨_, e⟩ | ⟨_, _, e⟩ | ⟨_, _, _, e⟩ | ⟨_, _, _, e⟩ | ⟨_, _, e⟩ | ⟨_, _, _, e⟩ | ⟨_, _, _, e⟩ <;>
    rw [e]

/-- R156: a window is opened where the test leads from WAIT_L1 to WAIT_L2. -/
theorem Tru.opensWindow_eq (t : Tru) (r : PointRecord) :
    t.opensWindow r = decide (t.state = .waitL1 ∧ (t.test r).1.state = .waitL2) := by
  unfold Tru.opensWindow Tru.test
  cases hs : t.state with
  | waitL1 => cases t.config.condA.meets r <;> cases t.config.mode <;> simp [hs]
  | _ => simp

/-- R163: a FULL buffer has nothing to go. -/
theorem Tru.fillUp_of_none_to_go {t : Tru} (h : t.toGo = 0) : t.fillUp = { t with capState := .full } := by
  rw [Tru.fillUp, ← h]

/-- Settles O42: the tests of a condition one by one, the test of a record by the unit's state, the two rows by their
conditions. -/
theorem triggerTestsARecord : Obligations.TriggerTestsARecord := by
  refine ⟨fun c r => ?_, fun t r => ⟨?_, ?_, ?_, ?_, ?_, ?_, ?_⟩, fun s => ⟨?_, ?_, ?_, ?_⟩⟩
  · intro measured flag
    rw [c.meets_iff, c.flagTest_iff, c.indexTest_iff]
    rfl
  · exact fun hs hA => by simp [Tru.test, hs, hA]
  · exact fun hs hA hm => by simp [Tru.test, hs, hA, hm]
  · exact fun hs hA hm => by simp [Tru.test, hs, hA, hm]
  · exact fun hs hB => by simp [Tru.test, hs, hB]
  · exact fun hs hB hw => by simp [Tru.test, hs, hB, show ¬t.window ≤ 1 by omega]
  · exact fun hs hB hw => by simp [Tru.test, hs, hB, hw]
  · rintro (hs | hs | hs) <;> simp [Tru.test, hs]
  · exact fun hs hw => congrArg State.settled (if_pos ⟨hs, hw⟩)
  · exact fun h => congrArg State.settled (if_neg h)
  · intro hs hgo
    rw [← Tru.fillUp_of_none_to_go hgo]
    exact congrArg State.settled (if_pos ⟨hs, hgo⟩)
  · exact fun h => congrArg State.settled (if_neg h)

/-! ### The passage of a record (R154, R160 to R164) -/

/-- R154, items 2 and 3: MARK on a hit record by the response, and on any other while marks remain. -/
theorem Tru.markRecord_eq (t : Tru) (isHit : Bool) (r : PointRecord) :
    t.markRecord isHit r =
      ({ t with marks := if isHit then t.marks else t.marks - 1 },
        { r with mark := r.mark || (if isHit then t.config.respMark else decide (0 < t.marks)) }) := by
  unfold Tru.markRecord
  cases isHit with
  | true => rfl
  | false =>
    by_cases hm : 0 < t.marks
    · simp [hm]
    · have hnone : t.marks - 1 = t.marks := by omega
      simp [hm, hnone]

/-- R154, items 2 and 3, R160, R161: count, ALERT and marks of a hit, and the record with its MARK. -/
theorem Tru.strike_eq (t : Tru) (isHit : Bool) (r : PointRecord) :
    (if isHit then t.hit else t).markRecord isHit r =
      ({ t with
          hits := if isHit = true ∧ t.hits < 65535 then t.hits + 1 else t.hits
          alertUnread := t.alertUnread || isHit && t.config.respAlert
          marks := if isHit then (if t.config.respMark then t.config.markCount else t.marks) else t.marks - 1 },
        { r with mark := r.mark || (if isHit then t.config.respMark else decide (0 < t.marks)) }) := by
  rw [Tru.markRecord_eq]
  cases isHit with
  | true => simp [Tru.hit, satSucc]
  | false => simp

/-- R163, R164: what a record does to the capture, and whether it fills the buffer; `captures` says that it is a hit with the
CAPTURE response. -/
def Tru.takeIn (t : Tru) (captures : Bool) (r : PointRecord) : Tru × Bool :=
  let begins := captures && decide (t.capState = .empty)
  let begun :=
    if begins then t.beginCapture r
    else if captures && !decide (t.capState = .empty) then { t with skipped := true } else t
  let joins := !begins && decide (begun.capState = .filling)
  let joined := if joins then begun.appendCapture r else begun
  let fills := joins && decide (joined.toGo = 0)
  (if fills then joined.fillUp else joined, fills)

/-- R163, R164: an EMPTY capture begins at a hit with the response, a FILLING one takes the record, a FULL one stays. -/
theorem Tru.takeIn_eq (t : Tru) (captures : Bool) (r : PointRecord) :
    let begins := captures && decide (t.capState = .empty)
    let joins := decide (t.capState = .filling)
    let fills := joins && decide (t.toGo ≤ 1)
    t.takeIn captures r =
      ({ t with
          capState := if begins = true then .filling else if fills = true then .full else t.capState
          capture := if begins = true then t.history ++ [r] else if joins = true then t.capture ++ [r] else t.capture
          toGo := if begins = true then 15 else if joins = true then t.toGo - 1 else t.toGo
          hitPos := if begins = true then t.history.length + 1 else t.hitPos
          skipped := t.skipped || captures && decide (t.capState ≠ .empty) },
        fills) := by
  obtain ⟨config, state, window, hits, marks, unread, history, capState, capture, toGo, hitPos, skipped⟩ := t
  dsimp only [Tru.takeIn]
  cases capState with
  | empty => cases captures <;> simp [Tru.beginCapture]
  | full => cases captures <;> simp
  | filling =>
    have hgone : toGo - 1 = 0 ↔ toGo ≤ 1 := by omega
    by_cases hlast : toGo ≤ 1
    · cases captures <;> simp [Tru.appendCapture, Tru.fillUp, hlast]
    · cases captures <;> simp [Tru.appendCapture, hgone, hlast]

/-- R177: an event raised on a condition. -/
theorem State.ite_raise (s : State) (c : Prop) [Decidable c] (e : Event) :
    (if c then s.raise e else s) = { s with flags := if c then s.flags ||| e.bit else s.flags } := by
  split <;> rfl

/-- R162, R163: the end of a record's passage: the unit `t` takes its place, FULL with the event if the record fills the buffer,
and the record joins the history outside OFF. -/
theorem State.takeUnit_eq (s : State) (t : Tru) (fills : Bool) (r : PointRecord) :
    let held := s.onTru fun _ => t
    let filled := if fills then held.captureBecomesFull else held
    let unit := if fills then t.fillUp else t
    (if t.state = .off then filled else filled.onTru fun u => u.joinHistory r) =
      { s with
        tru := if unit.state = .off then unit else unit.joinHistory r
        flags := if fills then s.flags ||| Event.captureFull.bit else s.flags } := by
  intro held filled unit
  have hstate : unit.state = t.state := by
    cases fills <;> rfl
  rw [hstate]
  split <;> cases fills <;> rfl

/-- R154: the passage of a record, step by step. -/
theorem State.triggerPass_eq (s : State) (r : PointRecord) :
    let tested := s.tru.test r
    let told : EventSet := if s.tru.opensWindow r then s.flags ||| Event.trigL1.bit else s.flags
    let struck : EventSet := if tested.2 then told ||| Event.trigHit.bit else told
    let marked := (if tested.2 then tested.1.hit else tested.1).markRecord tested.2 r
    let taken := marked.1.takeIn (tested.2 && marked.1.config.respCapture) marked.2
    s.triggerPass r =
      ({ s with
          tru := if taken.1.state = .off then taken.1 else taken.1.joinHistory marked.2
          flags := if taken.2 then struck ||| Event.captureFull.bit else struck },
        marked.2) := by
  intro tested told struck marked taken
  unfold State.triggerPass
  dsimp only
  rw [State.ite_raise, State.ite_raise]
  exact Prod.ext (State.takeUnit_eq _ _ _ _) rfl

/-- Settles O43: the passage step by step, each step by its equation, and the history by the state after the test. -/
theorem recordsPassTheTriggerUnit : Obligations.RecordsPassTheTriggerUnit := by
  intro s r before config tested hit opens left captures begins joins fills told struck
  have htest : s.tru.test r = ({ before with state := tested.state, window := tested.window }, hit) :=
    Prod.ext (s.tru.test_eq r) rfl
  rw [s.triggerPass_eq, s.tru.opensWindow_eq, htest, Tru.strike_eq, Tru.takeIn_eq]
  dsimp only
  by_cases hoff : tested.state = .off
  · rw [if_pos hoff, if_pos hoff]
  · rw [if_neg hoff, if_neg hoff]
    rfl

end Sys2Proof.Machine
end

section
/-! PROOFS. The Trigger Unit's own operations keep its items in their values (O56). -/

namespace Sys2Proof.Machine

/-! ### Test, hit, capture and history (R154) -/

theorem Tru.inLimits_initial : Tru.initial.InLimits :=
  ⟨⟨nofun, fun _ => rfl⟩, ⟨rfl, rfl, rfl⟩, by decide, by decide, by decide, by decide, by decide, fun _ => rfl⟩

/-- A state with a window that fits it; OFF is entered with an empty history alone. -/
theorem Tru.InLimits.turn {t : Tru} (h : t.InLimits) {st : TriggerState} {w : Nat}
    (hwindow : Tru.windowFits { t with state := st, window := w }) (hoff : st = .off → t.history = []) :
    Tru.InLimits { t with state := st, window := w } := { h with window := hwindow, off := hoff }

/-- R155, R157, R159: WAIT_L1 with the window at 0. -/
theorem Tru.InLimits.waitL1 {t : Tru} (h : t.InLimits) : Tru.InLimits { t with state := .waitL1, window := 0 } :=
  h.turn ⟨nofun, fun _ => rfl⟩ nofun

/-- R156 to R158: a window opens at its configured length and counts down to 1. -/
theorem Tru.InLimits.test {t : Tru} (h : t.InLimits) (r : PointRecord) : (t.test r).1.InLimits := by
  obtain ⟨hin, hout⟩ := h.window
  rcases t.test_cases r with ⟨_, e⟩ | ⟨_, _, e⟩ | ⟨hs, _, _, e⟩ | ⟨_, _, _, e⟩ | ⟨_, _, e⟩ | ⟨_, _, _, e⟩ | ⟨hs, _, hw, e⟩ <;>
    rw [e]
  · exact h
  · exact h
  · exact h.turn (w := t.window) ⟨nofun, fun _ => hout (by simp [hs])⟩ nofun
  · exact h.turn ⟨fun _ => h.limit, fun hne => absurd rfl hne⟩ nofun
  · exact h.turn ⟨nofun, fun _ => rfl⟩ nofun
  · exact h.waitL1
  · obtain ⟨_, hmax⟩ := hin hs
    refine h.turn (st := t.state) (w := t.window - 1) ⟨fun _ => ?_, fun hne => absurd hs hne⟩ h.off
    exact ⟨Nat.le_sub_one_of_lt hw, (Nat.sub_le _ 1).trans hmax⟩

/-- R160, R161: the hit count saturates, and marks come from MarkCount. -/
theorem Tru.InLimits.strike {t : Tru} (h : t.InLimits) (isHit : Bool) (r : PointRecord) :
    ((if isHit then t.hit else t).markRecord isHit r).1.InLimits := by
  have hmarks := h.marks
  have hhits := h.hits
  have hcount := h.markCount
  rw [Tru.strike_eq]
  refine { h with marks := ?_, hits := ?_ } <;> dsimp only
  · repeat' split
    all_goals omega
  · split <;> omega

/-- R163: 16 records at most before the hit, the hit, and 15 to go. -/
theorem Tru.InLimits.takeIn {t : Tru} (h : t.InLimits) (captures : Bool) (r : PointRecord) :
    (t.takeIn captures r).1.InLimits := by
  have hcapture := h.capture
  have hhistory := h.history
  rw [Tru.takeIn_eq]
  refine { h with capture := ?_ }
  unfold Tru.captureFits at *
  cases hstate : t.capState with
  | empty =>
    rw [hstate] at hcapture
    cases captures with
    | true => simpa [Config.captureCapacity, Config.historyCapacity] using hhistory
    | false => simpa using hcapture
  | full =>
    rw [hstate] at hcapture
    simpa using hcapture
  | filling =>
    rw [hstate] at hcapture
    by_cases hlast : t.toGo ≤ 1
    · simp [hlast]
      omega
    · simp [hlast]
      omega

/-- R162: outside OFF a record joins the history, which keeps the last 16. -/
theorem Tru.InLimits.joinHistory {t : Tru} (h : t.InLimits) (r : PointRecord) :
    (if t.state = .off then t else t.joinHistory r).InLimits := by
  split
  · exact h
  · refine { h with history := ?_, off := fun hoff => absurd hoff ‹_› }
    simp only [Tru.joinHistory, List.length_drop, List.length_append, List.length_singleton]
    omega

/-- R154: the passage of a record. -/
theorem State.triggerPass_inLimits {s : State} (h : s.tru.InLimits) (r : PointRecord) :
    (s.triggerPass r).1.tru.InLimits := by
  rw [State.triggerPass_eq]
  exact (((h.test r).strike _ r).takeIn _ _).joinHistory _

/-! ### Captures that end and commands (R152, R163 to R166) -/

/-- R163, R164: a FILLING buffer holds no more than a FULL one. -/
theorem Tru.InLimits.fillUp {t : Tru} (h : t.InLimits) (hstate : t.capState = .filling) : t.fillUp.InLimits := by
  have hcapture := h.capture
  unfold Tru.captureFits at hcapture
  rw [hstate] at hcapture
  obtain ⟨_, _, hroom, hhit, hplace⟩ := hcapture
  exact { h with capture := ⟨rfl, (Nat.le_add_right _ _).trans hroom, hhit, hplace⟩ }

/-- R166: an emptied buffer. -/
theorem Tru.InLimits.emptyCapture {t : Tru} (h : t.InLimits) : t.emptyCapture.InLimits :=
  { h with capture := ⟨rfl, rfl, rfl⟩ }

/-- R165: a read of a terminal state leaves OFF with an empty history. -/
theorem Tru.InLimits.acknowledge {t : Tru} (h : t.InLimits) : t.acknowledge.InLimits := by
  unfold Tru.acknowledge
  split
  · exact { h with window := ⟨nofun, fun _ => rfl⟩, history := Nat.zero_le _, off := fun _ => rfl }
  · exact { h with }

/-- R152: the window and the mark count of a configuration taken are clamped. -/
theorem readTrigger_bounds {args : List Byte} {c : TriggerConfig} (h : readTrigger args = some c) :
    (1 ≤ c.l2Window ∧ c.l2Window ≤ 65535) ∧ c.markCount ≤ 255 := by
  unfold readTrigger at h
  dsimp only at h
  split at h
  · split at h
    · cases h
    · cases h
      exact ⟨clampNat_mem (by decide) _, (clampNat_mem (by decide) _).2⟩
  · cases h

/-- R152: a new configuration leaves the capture. -/
theorem Tru.InLimits.configure {t : Tru} (h : t.InLimits) {args : List Byte} {c : TriggerConfig}
    (hc : readTrigger args = some c) : (t.configure c).InLimits := by
  obtain ⟨hlimit, hcount⟩ := readTrigger_bounds hc
  exact ⟨⟨nofun, fun _ => rfl⟩, h.capture, hlimit, hcount, Nat.zero_le _, Nat.zero_le _, Nat.zero_le _, fun _ => rfl⟩

/-! ### Steps that keep the Trigger Unit's values -/

/-- From `s` to `t` the Trigger Unit's items stay in their values. -/
def KeepsTrigger (s t : State) : Prop := s.tru.InLimits → t.tru.InLimits

theorem KeepsTrigger.refl (s : State) : KeepsTrigger s s := id

theorem KeepsTrigger.trans {s t u : State} (h : KeepsTrigger s t) (k : KeepsTrigger t u) : KeepsTrigger s u := k ∘ h

theorem KeepsTrigger.ite {c : Prop} [Decidable c] {s t u : State} (ht : c → KeepsTrigger s t) (hu : ¬c → KeepsTrigger s u) :
    KeepsTrigger s (if c then t else u) := by
  split
  · exact ht ‹_›
  · exact hu ‹_›

/-- An operation that leaves the unit, which its laws mostly show by themselves. -/
theorem KeepsTrigger.of_same {s t : State} (h : t.tru = s.tru := by simp) : KeepsTrigger s t := fun hs => h ▸ hs

theorem State.keepsTrigger_passRecord (s : State) (r : PointRecord) : KeepsTrigger s (s.passRecord r) :=
  KeepsTrigger.trans (fun h => State.triggerPass_inLimits h r) (KeepsTrigger.of_same (by simp [State.passRecord]))

theorem State.keepsTrigger_captureBecomesFull {s : State} (h : s.tru.capState = .filling) :
    KeepsTrigger s s.captureBecomesFull := fun hs => hs.fillUp h

theorem State.keepsTrigger_captureAtStop (s : State) : KeepsTrigger s s.captureAtStop :=
  KeepsTrigger.ite (fun h => State.keepsTrigger_captureBecomesFull h) fun _ => KeepsTrigger.refl s

theorem State.keepsTrigger_sweepChange (s : State) : KeepsTrigger s s.sweepChange := by
  intro h
  rw [State.sweepChange_tru]
  split
  · exact h.waitL1
  · exact h

end Sys2Proof.Machine
end

section
/-! PROOFS. Records, commands, rows and steps keep the Trigger Unit's items in their values (O56). -/

namespace Sys2Proof.Machine

/-! ### Closing and resyncs -/

/-- R97, R159: a sweep change reaches the unit behind the marker. -/
theorem State.keepsTrigger_sweepTest (s : State) (p : Pulse) : KeepsTrigger s (s.sweepTest p) := by
  have hmarker : KeepsTrigger s (s.offerMarker (.swp p.sweep p.seq p.facet)) := KeepsTrigger.of_same
  exact KeepsTrigger.ite (fun _ => KeepsTrigger.refl s) fun _ =>
    (hmarker.trans (State.keepsTrigger_sweepChange _)).trans KeepsTrigger.of_same

theorem keepsTrigger_passRecords (rs : List PointRecord) (s : State) : KeepsTrigger s (passRecords rs s) := by
  induction rs generalizing s with
  | nil => exact KeepsTrigger.refl s
  | cons r rest ih => exact (s.keepsTrigger_passRecord r).trans (ih _)

theorem State.keepsTrigger_pipelineRequest (s : State) : KeepsTrigger s s.pipelineRequest := KeepsTrigger.of_same

theorem State.keepsTrigger_formPoints (s : State) (p : Pulse) (evicted : Bool) : KeepsTrigger s (s.formPoints p evicted) :=
  ((s.keepsTrigger_sweepTest p).trans (State.keepsTrigger_pipelineRequest _)).trans (keepsTrigger_passRecords _ _)

theorem State.keepsTrigger_enterStopped (s : State) : KeepsTrigger s s.enterStopped := by
  have hswitch : KeepsTrigger s ((s.onEmq fun q => { q with run := .stopped }).raise .streamStopped).stoppedSwitch :=
    KeepsTrigger.of_same
  unfold State.enterStopped
  exact (hswitch.trans (State.keepsTrigger_captureAtStop _)).trans KeepsTrigger.of_same

theorem State.keepsTrigger_drainTest (s : State) : KeepsTrigger s s.drainTest :=
  KeepsTrigger.ite (fun _ => s.keepsTrigger_enterStopped) fun _ => KeepsTrigger.refl s

theorem State.keepsTrigger_closeHead (s : State) (evicted : Bool) : KeepsTrigger s (s.closeHead evicted) := by
  cases h : s.emq.queue with
  | nil => rw [State.closeHead_of_empty s h]; exact KeepsTrigger.refl s
  | cons p rest =>
    have hformed := State.keepsTrigger_formPoints { s with emq := { s.emq with queue := rest } } p evicted
    rw [State.closeHead_of_cons h]
    exact KeepsTrigger.trans hformed (KeepsTrigger.trans (KeepsTrigger.of_same (by rfl)) (State.keepsTrigger_drainTest _))

theorem keepsTrigger_closeExpired (n : Nat) (s : State) : KeepsTrigger s (closeExpired n s) := by
  induction n generalizing s with
  | zero => exact KeepsTrigger.refl s
  | succ n ih =>
    unfold closeExpired
    split
    · exact KeepsTrigger.refl s
    · exact KeepsTrigger.ite
        (fun _ => (s.keepsTrigger_pipelineRequest.trans (State.keepsTrigger_closeHead _ _)).trans (ih _))
        fun _ => s.keepsTrigger_pipelineRequest

theorem State.keepsTrigger_pulseClose (s : State) : KeepsTrigger s s.pulseClose := by
  unfold State.pulseClose
  split
  · exact KeepsTrigger.refl s
  · exact KeepsTrigger.ite (fun _ => s.keepsTrigger_pipelineRequest.trans (State.keepsTrigger_closeHead _ _))
      fun _ => s.keepsTrigger_pipelineRequest

/-- R52: a resync that ends a drain enters STOPPED. -/
theorem State.keepsTrigger_endResync (s : State) (reason : ResyncReason) : KeepsTrigger s (s.endResync reason) := by
  unfold State.endResync
  cases s.emq.run with
  | running => cases reason <;> exact KeepsTrigger.of_same
  | draining => exact s.keepsTrigger_enterStopped
  | stopped => exact KeepsTrigger.refl s
  | waiting => exact KeepsTrigger.refl s

theorem State.keepsTrigger_doResync (s : State) (reason : ResyncReason) : KeepsTrigger s (s.doResync reason) := by
  rw [State.doResync_eq]
  exact KeepsTrigger.trans (KeepsTrigger.of_same (by simp [State.flushAndMark])) (State.keepsTrigger_endResync _ reason)

theorem State.keepsTrigger_askResync (s : State) (reason : ResyncReason) : KeepsTrigger s (s.askResync reason) := by
  rcases s.askResync_cases reason with ⟨_, e⟩ | ⟨_, e⟩ <;> rw [e]
  · exact s.keepsTrigger_doResync reason
  · exact KeepsTrigger.refl s

/-! ### The tracker -/

/-- An update of a channel that raises an event and may ask for a resync, as INDEX records and samples make them. -/
theorem State.keepsTrigger_onAnt_askResync (s : State) (f : Ant → Ant) (e : Event) (reason : ResyncReason) :
    KeepsTrigger s (((s.onAnt f).raise e).askResync reason) :=
  KeepsTrigger.trans (KeepsTrigger.of_same (by rfl)) (State.keepsTrigger_askResync _ reason)

theorem State.keepsTrigger_handleIndex (s : State) (id : ChannelId) (raw : RawCount) :
    KeepsTrigger s (s.handleIndex id raw) :=
  KeepsTrigger.ite (fun _ => s.keepsTrigger_onAnt_askResync _ _ _) fun _ => KeepsTrigger.of_same

theorem State.keepsTrigger_handleSample (s : State) (id : ChannelId) (raw : RawCount) :
    KeepsTrigger s (s.handleSample id raw) := by
  unfold State.handleSample
  dsimp only
  split
  · exact KeepsTrigger.of_same
  · exact KeepsTrigger.of_same
  · exact s.keepsTrigger_onAnt_askResync _ _ _

theorem State.keepsTrigger_track (s : State) (mirror azimuth : RawCount) : KeepsTrigger s (s.track mirror azimuth).1 := by
  have hport : KeepsTrigger s (State.pipelineRequests (trackerRequests s.ant) s) := KeepsTrigger.of_same
  have hsamples := (hport.trans (State.keepsTrigger_handleSample _ .mirror mirror)).trans
    (State.keepsTrigger_handleSample _ .azimuth azimuth)
  exact hsamples.trans (KeepsTrigger.of_same rfl)

/-! ### FIRE records -/

theorem State.keepsTrigger_tryStart (s : State) : KeepsTrigger s s.tryStart := KeepsTrigger.of_same

/-- R46: an eviction closes the head. -/
theorem State.keepsTrigger_makeRoom (s : State) : KeepsTrigger s s.makeRoom := by
  refine KeepsTrigger.ite (fun _ => ?_) fun _ => KeepsTrigger.refl s
  obtain ⟨first, hevict⟩ := s.evictHead_eq
  rw [hevict]
  have hfirst : KeepsTrigger s (if first then s.raise .queueEvict else s).drawFree := by
    cases first <;> exact KeepsTrigger.of_same
  exact (hfirst.trans (State.keepsTrigger_closeHead _ true)).trans (KeepsTrigger.of_same rfl)

theorem State.keepsTrigger_judgePulse (s : State) (t : Timestamp) (k : Handoff) : KeepsTrigger s (s.judgePulse t k) := by
  rcases s.judgePulse_cases t k with e | e | ⟨m, azimuth, _, _, _, _, _, _, e⟩ <;> rw [e]
  · exact KeepsTrigger.refl s
  · exact KeepsTrigger.of_same
  · exact s.keepsTrigger_makeRoom.trans (KeepsTrigger.of_same (by simp [State.acceptPulse]))

theorem State.keepsTrigger_considerPulse (s : State) (t : Timestamp) (k : Handoff) :
    KeepsTrigger s (s.considerPulse t k) := by
  unfold State.considerPulse
  cases s.emq.run with
  | stopped => exact KeepsTrigger.refl s
  | draining => exact KeepsTrigger.refl s
  | running => exact s.keepsTrigger_judgePulse t k
  | waiting =>
    exact KeepsTrigger.ite (fun _ => s.keepsTrigger_tryStart.trans (State.keepsTrigger_judgePulse _ t k))
      fun _ => KeepsTrigger.refl s

theorem State.keepsTrigger_handleFire (s : State) (t : Timestamp) (mirror azimuth : RawCount) :
    KeepsTrigger s (s.handleFire t mirror azimuth) := by
  have hpulse := (s.keepsTrigger_track mirror azimuth).trans
    (State.keepsTrigger_considerPulse _ t (s.track mirror azimuth).2)
  exact KeepsTrigger.ite (fun _ => hpulse.trans KeepsTrigger.of_same) fun _ => hpulse

/-! ### Commands -/

/-- R187: a command refused for its length changes nothing. -/
theorem KeepsTrigger.ofLength {s : State} {k : Reply} (h : KeepsTrigger s k.state) (n : Nat) (args : List Byte) :
    KeepsTrigger s (Reply.ofLength n args s k).state := by
  unfold Reply.ofLength
  split
  · exact h
  · exact KeepsTrigger.refl s

theorem State.keepsTrigger_stop (s : State) (args : List Byte) : KeepsTrigger s (cmdStop args s).state := by
  refine KeepsTrigger.ofLength ?_ 0 args
  cases s.emq.run with
  | running =>
    dsimp only
    split
    · exact s.keepsTrigger_enterStopped
    · exact KeepsTrigger.of_same rfl
  | waiting => exact s.keepsTrigger_enterStopped
  | stopped => exact KeepsTrigger.refl s
  | draining => exact KeepsTrigger.refl s

theorem State.keepsTrigger_triggerSet (s : State) (args : List Byte) : KeepsTrigger s (cmdTriggerSet args s).state := by
  refine KeepsTrigger.ofLength ?_ 32 args
  cases hc : readTrigger args with
  | some c => exact fun h => h.configure hc
  | none => exact KeepsTrigger.refl s

theorem State.keepsTrigger_triggerArm (s : State) (args : List Byte) : KeepsTrigger s (cmdTriggerArm args s).state := by
  refine KeepsTrigger.ofLength ?_ 0 args
  split
  · exact Tru.InLimits.waitL1
  · exact KeepsTrigger.refl s

theorem State.keepsTrigger_triggerRead (s : State) (args : List Byte) : KeepsTrigger s (cmdTriggerRead args s).state :=
  KeepsTrigger.ofLength (k := (s.onTru Tru.acknowledge).accept s.tru.report) Tru.InLimits.acknowledge 0 args

theorem State.keepsTrigger_captureRead (s : State) (args : List Byte) : KeepsTrigger s (cmdCaptureRead args s).state := by
  refine KeepsTrigger.ofLength ?_ 0 args
  cases s.tru.capState with
  | full => exact Tru.InLimits.emptyCapture
  | filling => exact KeepsTrigger.refl s
  | empty => exact KeepsTrigger.refl s

/-- R167: the unit after a reset. -/
theorem KeepsTrigger.of_initial {s t : State} (h : t.tru = Tru.initial) : KeepsTrigger s t := fun _ =>
  h ▸ Tru.inLimits_initial

/-- R187: what a command other than TABLE_READ does. -/
theorem State.keepsTrigger_replyTo (s : State) (c : Command) : KeepsTrigger s (replyTo c s).state := by
  have hresync : KeepsTrigger s (cmdResync c.args s).state :=
    KeepsTrigger.ofLength (k := State.accept _ []) (s.keepsTrigger_doResync .command) 0 c.args
  have hreset : KeepsTrigger s (cmdReset c.args s).state :=
    KeepsTrigger.ofLength (k := State.accept _ []) (KeepsTrigger.of_initial rfl) 0 c.args
  refine replyTo_cases s c (fun r => KeepsTrigger s r.state) ?_ ?_ ?_ ?_ ?_ ?_ ?_ ?_ ?_ ?_ ?_ ?_
    (s.keepsTrigger_stop c.args) hresync (s.keepsTrigger_triggerSet c.args) (s.keepsTrigger_triggerArm c.args)
    (s.keepsTrigger_triggerRead c.args) (s.keepsTrigger_captureRead c.args) hreset (KeepsTrigger.refl s) <;>
    exact KeepsTrigger.of_same

theorem State.keepsTrigger_takeCommand (s : State) (c : Command) : KeepsTrigger s (s.takeCommand c) := by
  rcases s.takeCommand_cases c with ⟨r, _, _, e⟩ | ⟨x, _, _, e⟩ | ⟨_, e⟩ <;> rw [e]
  · exact KeepsTrigger.of_same
  · exact KeepsTrigger.of_same (by simp [State.refuse])
  · exact (s.keepsTrigger_replyTo c).trans KeepsTrigger.of_same

theorem State.keepsTrigger_deliverCommand (s : State) (c : Command) : KeepsTrigger s (s.deliverCommand c) := by
  rcases s.deliverCommand_cases c with ⟨_, _, e⟩ | ⟨_, _, e⟩ | ⟨_, _, e⟩ <;> rw [e]
  · exact s.keepsTrigger_takeCommand c
  · exact KeepsTrigger.of_same
  · exact KeepsTrigger.of_same (by simp [State.refuse])

theorem keepsTrigger_drainCommands (n : Nat) (s : State) : KeepsTrigger s (drainCommands n s) := by
  induction n generalizing s with
  | zero => exact KeepsTrigger.refl s
  | succ n ih =>
    unfold drainCommands
    split
    · rename_i c rest _ _
      have hqueue : KeepsTrigger s (s.onCmi fun m => { m with queue := rest }) := KeepsTrigger.of_same
      exact (hqueue.trans (State.keepsTrigger_takeCommand _ c)).trans (ih _)
    · exact KeepsTrigger.refl s

/-- R121, R186: the end of a row. -/
theorem State.keepsTrigger_settleRead (s : State) : KeepsTrigger s s.settleRead := by
  have hanswer : KeepsTrigger s s.answerRead := by
    rcases s.answerRead_cases with ⟨r, _, _, e⟩ | ⟨_, e⟩ <;> rw [e]
    · exact KeepsTrigger.of_same
    · exact KeepsTrigger.refl s
  unfold State.settleRead
  rcases s.answerRead.takeQueued_cases with ⟨_, _, n, e⟩ | ⟨_, e⟩ <;> rw [e]
  · exact hanswer.trans (keepsTrigger_drainCommands n s.answerRead.drawFree)
  · exact hanswer

/-! ### Records and frames -/

/-- Section 1.5: where every handling of a record keeps the unit's values, the record does. -/
theorem State.keepsTrigger_timed (s : State) (t : Timestamp) {handle : State → State}
    (hk : ∀ u : State, KeepsTrigger u (handle u)) : KeepsTrigger s (s.timed t handle) := by
  have htime : KeepsTrigger s (s.setTime t) := KeepsTrigger.of_same
  have hclosing : KeepsTrigger s (s.setTime t).closing := htime.trans (keepsTrigger_closeExpired _ _)
  rcases s.timed_cases t handle with ⟨_, e⟩ | ⟨_, e⟩ | ⟨_, e⟩ | ⟨_, e⟩ <;> rw [e]
  · exact (hclosing.trans (KeepsTrigger.of_same (t := s.advance t) (by simp [State.advance]))).trans (hk _)
  · exact hk s
  · exact hk s
  · exact htime.trans (State.keepsTrigger_askResync _ .timeJump)

/-- Section 1.4: a delivered record of any kind; ECHO and TILE records do not reach the unit. -/
theorem State.keepsTrigger_deliver (s : State) (r : Record) : KeepsTrigger s (s.deliver r) := by
  cases r with
  | fire t m a => exact s.keepsTrigger_timed t fun u => u.keepsTrigger_handleFire t m a
  | echo t a w => exact s.keepsTrigger_timed t fun u => KeepsTrigger.of_same
  | tick t => exact s.keepsTrigger_timed t KeepsTrigger.refl
  | index c raw => exact s.keepsTrigger_handleIndex c raw
  | tile n st cols rows cells => exact KeepsTrigger.ite (fun _ => KeepsTrigger.of_same) fun _ => KeepsTrigger.of_same
  | cmd c => exact KeepsTrigger.ite (fun _ => s.keepsTrigger_deliverCommand c) fun _ => KeepsTrigger.of_same

theorem State.keepsTrigger_classified (s : State) (kind : Byte) (payload : List Byte) :
    KeepsTrigger s (s.classified kind payload) := by
  unfold State.classified
  split
  · exact s.keepsTrigger_deliver _
  · exact KeepsTrigger.of_same

/-- R4: the loss of the link asks for a resync. -/
theorem State.keepsTrigger_frameFails (s : State) : KeepsTrigger s s.frameFails := by
  unfold State.frameFails
  split
  · exact KeepsTrigger.of_same
  · exact KeepsTrigger.ite (fun _ => KeepsTrigger.of_same) fun _ =>
      KeepsTrigger.trans (KeepsTrigger.of_same (by rfl)) (State.keepsTrigger_askResync _ .linkLost)

theorem State.keepsTrigger_receiveBytes (s : State) (bytes : List Byte) : KeepsTrigger s (s.receiveBytes bytes) := by
  have hpassed : KeepsTrigger s s.passed := KeepsTrigger.of_same
  rcases s.receiveBytes_cases bytes with ⟨_, e⟩ | ⟨_, _, e⟩ | ⟨_, _, _, e⟩ | ⟨_, kind, payload, _, e⟩ <;> rw [e]
  · exact KeepsTrigger.refl s
  · exact s.keepsTrigger_frameFails
  · exact KeepsTrigger.of_same
  · exact hpassed.trans (State.keepsTrigger_classified _ kind payload)

theorem State.keepsTrigger_receiveRecord (s : State) (r : Record) : KeepsTrigger s (s.receiveRecord r) := by
  have hpassed : KeepsTrigger s s.passed := KeepsTrigger.of_same
  rcases s.receiveRecord_cases r with ⟨_, e⟩ | ⟨_, _, e⟩ | ⟨_, e⟩ <;> rw [e]
  · exact KeepsTrigger.refl s
  · exact KeepsTrigger.of_same
  · exact hpassed.trans (State.keepsTrigger_deliver _ r)

/-! ### Rows and steps -/

theorem State.keepsTrigger_atLines (s : State) (o : Option Lines) : KeepsTrigger s (s.atLines o) := by
  cases o with
  | none => exact KeepsTrigger.refl s
  | some l => exact KeepsTrigger.of_same (by simp [State.atLines])

/-- A row that ends by settling the read. -/
theorem KeepsTrigger.settled {s u t : State} (h : KeepsTrigger s u) (he : u.settled = .next t) : KeepsTrigger s t := by
  cases he
  exact h.trans u.keepsTrigger_settleRead

/-- A row that settles the read after an operation that leaves the unit. -/
theorem KeepsTrigger.of_settled {s u t : State} (he : u.settled = .next t) (h : u.tru = s.tru := by simp) :
    KeepsTrigger s t := (KeepsTrigger.of_same h).settled he

theorem exec_keepsTrigger {i : Instr} {s t : State} (he : exec i s = .next t) : KeepsTrigger s t := by
  cases hr : recordOf i with
  | some ro =>
    obtain ⟨r, o⟩ := ro
    rw [exec_of_recordOf s hr] at he
    exact ((s.keepsTrigger_atLines o).trans (State.keepsTrigger_receiveRecord _ r)).settled he
  | none =>
    cases i with
    | powerOnReset l => cases he; exact KeepsTrigger.of_initial rfl
    | lineReset => cases he; exact KeepsTrigger.of_initial rfl
    | resetNRelease l => cases he; exact KeepsTrigger.of_same
    | frameCheckFail bytes => exact (s.keepsTrigger_receiveBytes bytes).settled he
    | huntFrame bytes => exact (s.keepsTrigger_receiveBytes bytes).settled he
    | frameRefused bytes => exact (s.keepsTrigger_receiveBytes bytes).settled he
    | tableReadFetch l => exact KeepsTrigger.of_settled he
    | pulseClose => exact s.keepsTrigger_pulseClose.settled he
    | batchFlush => exact KeepsTrigger.of_settled he
    | l2WindowEnd =>
      have hend (hw : s.tru.state = .waitL2 ∧ s.tru.window = 0) :
          KeepsTrigger s (s.onTru fun t => { t with state := .waitL1 }) := fun h =>
        h.turn (w := s.tru.window) ⟨nofun, fun _ => hw.2⟩ nofun
      exact (KeepsTrigger.ite hend fun _ => KeepsTrigger.refl s).settled he
    | captureFull =>
      exact (KeepsTrigger.ite (fun h => State.keepsTrigger_captureBecomesFull h.1) fun _ => KeepsTrigger.refl s).settled he
    | tileTimeout laser =>
      exact (KeepsTrigger.ite (fun _ => KeepsTrigger.of_same) fun _ => KeepsTrigger.refl s).settled he
    | tileRetire laser =>
      exact (KeepsTrigger.ite (fun _ => KeepsTrigger.of_same) fun _ => KeepsTrigger.refl s).settled he
    | generationSwitch => exact KeepsTrigger.of_settled he
    | streamStarted => exact KeepsTrigger.of_settled he
    | drainEnd => exact s.keepsTrigger_drainTest.settled he
    | recReadyRise => exact KeepsTrigger.of_settled he
    | frameDepartureEnd l =>
      exact (KeepsTrigger.ite (fun _ => KeepsTrigger.of_same) fun _ => KeepsTrigger.of_same).settled he
    | rspWaitAdmit => exact KeepsTrigger.of_settled he
    | camTrigPulseEnd => exact KeepsTrigger.of_settled he
    | _ => cases hr

/-- Settles O56: every row and the idle step keep the unit's values, and a row's removal from the queue of commands leaves them. -/
theorem triggerStaysConsistent : Obligations.TriggerStaysConsistent := by
  intro s t h hstep
  rw [Tru.consistent_iff] at h ⊢
  unfold step at hstep
  split at hstep
  · cases hstep
    exact keepsTrigger_drainCommands 1 s h
  · rename_i i rest _
    exact exec_keepsTrigger (s := { s with pending := rest }) hstep h

end Sys2Proof.Machine
end

section
/-! PROOFS. TRIGGER_SET and TRIGGER_ARM (O40), TRIGGER_READ and CAPTURE_READ (O41). -/

namespace Sys2Proof.Machine

/-! ### The configuration that TRIGGER_SET carries (R152, section 11.4) -/

theorem fieldAt_drop (bs : List Byte) (at_ i n : Nat) : fieldAt (bs.drop at_) i n = fieldAt bs (at_ + i) n := by
  simp [fieldAt, List.drop_drop]

/-- Section 11.4: a condition from its place on. -/
theorem readCondition_drop (bs : List Byte) (at_ : Nat) :
    readCondition (bs.drop at_) =
      { rangeLo := min (2 ^ 28 - 1) (fieldAt bs at_ 4)
        rangeHi := min (2 ^ 28 - 1) (fieldAt bs (at_ + 4) 4)
        amplitudeMin := min 4095 (fieldAt bs (at_ + 8) 2)
        flagMask := BitVec.ofNat 8 (fieldAt bs (at_ + 10) 1)
        flagValue := BitVec.ofNat 8 (fieldAt bs (at_ + 11) 1)
        echoIndex := fieldAt bs (at_ + 12) 1 } := by
  simp only [readCondition, fieldAt_drop, clampNat_zero]
  rfl

theorem Condition.refused_eq_false_iff (c : Condition) : c.refused = false ↔ c.echoIndex ≤ 8 ∧ c.rangeLo ≤ c.rangeHi := by
  simp [Condition.refused]

theorem triggerModeOf_eq (n : Nat) :
    triggerModeOf n = if n ≤ 1 then some (if n = 0 then .one else .two) else none := by
  rcases n with _ | _ | n <;> rfl

theorem flagOf_eq (n : Nat) : flagOf n = if n ≤ 1 then some (decide (n = 1)) else none := by
  rcases n with _ | _ | n <;> rfl

/-- R152: the configuration of the argument bytes, where mode, Repeat and both conditions are taken. -/
theorem readTrigger_eq (bs : List Byte) :
    readTrigger bs =
      if fieldAt bs 0 1 ≤ 1 ∧ fieldAt bs 3 1 ≤ 1 ∧ (readCondition (bs.drop 6)).refused = false ∧
          (readCondition (bs.drop 19)).refused = false then
        some
          { mode := if fieldAt bs 0 1 = 0 then .one else .two
            condA := readCondition (bs.drop 6)
            condB := readCondition (bs.drop 19)
            l2Window := max 1 (min 65535 (fieldAt bs 4 2))
            respMark := (fieldAt bs 1 1).testBit 0
            respCapture := (fieldAt bs 1 1).testBit 1
            respAlert := (fieldAt bs 1 1).testBit 2
            markCount := min 255 (fieldAt bs 2 1)
            rearm := decide (fieldAt bs 3 1 = 1) }
      else none := by
  simp only [readTrigger, triggerModeOf_eq, flagOf_eq, clampNat_zero]
  by_cases hmode : fieldAt bs 0 1 ≤ 1
  · by_cases hrepeat : fieldAt bs 3 1 ≤ 1
    · cases (readCondition (bs.drop 6)).refused <;> cases (readCondition (bs.drop 19)).refused <;>
        simp [hmode, hrepeat, clampNat]
    · simp [hmode, hrepeat]
  · simp [hmode]

/-! ### TRIGGER_SET and TRIGGER_ARM (R152, R155) -/

/-- R152: a TRIGGER_SET by the configuration it carries. -/
theorem cmdTriggerSet_spec (s : State) {args : List Byte} (hl : args.length = 32) :
    (∀ c, readTrigger args = some c → cmdTriggerSet args s = (s.onTru fun t => t.configure c).accept []) ∧
      (readTrigger args = none → cmdTriggerSet args s = s.refuse .badArgument) := by
  have hlength : cmdTriggerSet args s = _ := if_pos hl
  rw [hlength]
  exact ⟨fun c h => by rw [h], fun h => by rw [h]⟩

theorem exec_triggerSet {s : State} (hs : s.takes) (tag : Byte) {args : List Byte} (hl : args.length = 32) {r : Reply}
    (hr : cmdTriggerSet args s.passed = r) :
    exec (.triggerSet tag args) s = .next (r.state.respond tag 0x10#8 r.result r.body) := by
  rw [exec_of_reply_at (i := .triggerSet tag args) rfl hs (by simp [hl, maxArgs]) (by decide), ← hr]
  rfl

theorem exec_triggerArm {s : State} (hs : s.takes) (tag : Byte) {r : Reply} (hr : cmdTriggerArm [] s.passed = r) :
    exec (.triggerArm tag []) s = .next (r.state.respond tag 0x11#8 r.result r.body) :=
  exec_of_reply rfl hs (by decide) hr

/-- Settles O40: TRIGGER_SET by the configuration read, TRIGGER_ARM by the unit's state. -/
theorem triggerIsSetAndArmed : Obligations.TriggerIsSetAndArmed := by
  intro tag args s hs field condition condA condB sound taken
  have hcondition (at_ : Nat) : readCondition (args.drop at_) = condition at_ := readCondition_drop args at_
  have hread := readTrigger_eq args
  simp only [hcondition, Condition.refused_eq_false_iff] at hread
  refine ⟨fun hl htaken => ?_, fun hl hnot => ?_, fun h => exec_triggerArm hs tag (if_pos h),
    fun h => exec_triggerArm hs tag (if_neg h)⟩
  · exact exec_triggerSet hs tag hl ((cmdTriggerSet_spec s.passed hl).1 _ (hread.trans (if_pos htaken)))
  · exact exec_triggerSet hs tag hl ((cmdTriggerSet_spec s.passed hl).2 (hread.trans (if_neg hnot)))

/-! ### TRIGGER_READ and CAPTURE_READ (R165, R166) -/

theorem exec_triggerRead {s : State} (hs : s.takes) (tag : Byte) :
    exec (.triggerRead tag []) s =
      .next (State.respond { s.passed with tru := s.tru.acknowledge } tag 0x12#8 .ok s.tru.report) :=
  exec_of_reply (r := (s.passed.onTru Tru.acknowledge).accept s.tru.report) rfl hs (by decide) rfl

theorem exec_captureRead {s : State} (hs : s.takes) (tag : Byte) {r : Reply} (hr : cmdCaptureRead [] s.passed = r) :
    exec (.captureRead tag []) s = .next (r.state.respond tag 0x13#8 r.result r.body) :=
  exec_of_reply rfl hs (by decide) hr

/-- R166: CAPTURE_READ in each capture state. -/
theorem cmdCaptureRead_spec (s : State) :
    (s.tru.capState = .full → cmdCaptureRead [] s = (s.onTru Tru.emptyCapture).accept s.tru.captureBody) ∧
    (s.tru.capState = .filling → cmdCaptureRead [] s = s.refuse .busy) ∧
    (s.tru.capState = .empty → cmdCaptureRead [] s = s.accept [0, 0, 0, 0]) := by
  unfold cmdCaptureRead Reply.ofLength
  cases s.tru.capState <;> simp

/-- Settles O41: TRIGGER_READ by whether the state is terminal, CAPTURE_READ by the capture state. -/
theorem triggerAndCaptureAreRead : Obligations.TriggerAndCaptureAreRead := by
  refine ⟨fun tag s hs => ?_, fun tag s hs => ?_⟩
  · intro terminal report
    rw [exec_triggerRead hs tag, Tru.acknowledge]
    refine ⟨fun h => ?_, fun h => ?_⟩
    · rw [if_pos h]
      rfl
    · rw [if_neg h]
      rfl
  · obtain ⟨hfull, hfilling, hempty⟩ := cmdCaptureRead_spec s.passed
    exact ⟨fun h => exec_captureRead hs tag (hfull h), fun h => exec_captureRead hs tag (hfilling h),
      fun h => exec_captureRead hs tag (hempty h)⟩

end Sys2Proof.Machine
end

section
/-! PROOFS. The Record Link Framer's own operations keep its limits, and the end of a departure restores them (O57). -/

namespace Sys2Proof.Machine

/-! ### The invariant in three parts -/

/-- R170, R173, R174, R204: what an operation on the framer keeps even in the midst of a departure's end. -/
structure State.FramesFit (s : State) : Prop where
  bytes : s.bufferBytes ≤ Config.bufferCapacity
  others : s.otherBytes ≤ Config.bufferCapacity - Config.responseReserve
  batch : s.rlf.batch.length < Config.batchCapacity
  leaving : s.rlf.departing = true → s.rlf.buffer ≠ []
  sealed : ∀ f ∈ s.rlf.buffer, f.sealed
  dropped : s.rlf.dropped ≤ 2 ^ 32 - 1

/-- R174: the front answer waits only for want of space. -/
def State.FrontWaits (s : State) : Prop := ∀ a ∈ s.rlf.waiting.head?, s.fitsFreeSpace (.rsp a) = false

/-- R176: a frame is leaving wherever the buffer holds one and REC_READY is high. -/
def State.ReadyUsed (s : State) : Prop := s.rlf.departing = false → s.rlf.buffer ≠ [] → s.pins.recReady = false

theorem State.framerConsistent_iff (s : State) : s.framerConsistent ↔ s.FramesFit ∧ s.FrontWaits ∧ s.ReadyUsed := by
  constructor
  · rintro ⟨hbytes, hothers, hbatch, hfront, hleaving, hready, hsealed, hdropped⟩
    exact ⟨⟨hbytes, hothers, hbatch, hleaving, hsealed, hdropped⟩, hfront, hready⟩
  · rintro ⟨⟨hbytes, hothers, hbatch, hleaving, hsealed, hdropped⟩, hfront, hready⟩
    exact ⟨hbytes, hothers, hbatch, hfront, hleaving, hready, hsealed, hdropped⟩

/-- R182: an empty framer. -/
theorem State.framerConsistent_of_initial {s : State} (h : s.rlf = Rlf.initial) : s.framerConsistent := by
  simp [State.framerConsistent, State.bufferBytes, State.otherBytes, h, Rlf.initial, Config.batchCapacity]

/-! ### Space (R173, R174) -/

/-- R174: the free space is the capacity less the bytes held. -/
theorem State.fitsFreeSpace_iff (s : State) (p : Payload) :
    s.fitsFreeSpace p = true ↔ s.bufferBytes + p.frameLength ≤ Config.bufferCapacity := decide_eq_true_iff

/-- R173: a frame outside the reserve needs an empty wait list and space beside the response bytes. -/
theorem State.fitsOutsideReserve_iff (s : State) (p : Payload) :
    s.fitsOutsideReserve p = true ↔
      s.rlf.waiting = [] ∧
        s.otherBytes + max s.rspBytes Config.responseReserve + p.frameLength ≤ Config.bufferCapacity := by
  simp [State.fitsOutsideReserve]

/-! ### Admission (R173 to R176, R204) -/

/-- R175, R204: a frame is sealed at its admission. -/
theorem State.stamp_sealed (s : State) (p : Payload) : (s.stamp p).sealed := by
  refine ⟨rfl, fun hgap => ?_⟩
  obtain ⟨hpts, _⟩ := Bool.and_eq_true_iff.mp hgap
  exact hpts

theorem State.FramesFit.admitFrame {s : State} (h : s.FramesFit) {p : Payload}
    (hfree : s.bufferBytes + p.frameLength ≤ Config.bufferCapacity)
    (hreserve : p.isRsp = true ∨ s.otherBytes + p.frameLength ≤ Config.bufferCapacity - Config.responseReserve) :
    (s.admitFrame p).FramesFit := by
  obtain ⟨hbytes, hothers⟩ := s.admitFrame_bytes p
  refine ⟨hbytes ▸ hfree, hothers ▸ ?_, h.batch, fun _ => by simp [State.admitFrame_rlf], fun f hf => ?_, h.dropped⟩
  · have hheld := h.others
    split
    · exact hheld
    · simpa [‹¬_›] using hreserve
  · rw [State.admitFrame_rlf] at hf
    rcases List.mem_append.mp hf with hf | hf
    · exact h.sealed f hf
    · rw [List.mem_singleton.mp hf]
      exact s.stamp_sealed p

/-- R174: an answer needs the free space alone. -/
theorem State.FramesFit.admitAnswer {s : State} (h : s.FramesFit) {a : Answer} (hfits : s.fitsFreeSpace (.rsp a) = true) :
    (s.admitFrame (.rsp a)).FramesFit :=
  h.admitFrame ((s.fitsFreeSpace_iff _).mp hfits) (.inl rfl)

/-- R176: a frame admitted to an empty buffer leaves at once where REC_READY is high. -/
theorem State.ReadyUsed.admitFrame {s : State} (h : s.ReadyUsed) (p : Payload) : (s.admitFrame p).ReadyUsed := by
  intro hidle _
  rw [State.admitFrame_rlf] at hidle
  obtain ⟨hnone, hempty⟩ := Bool.or_eq_false_iff.mp hidle
  rw [(s.admitFrame_frame p).2.1]
  by_cases hbuffer : s.rlf.buffer = []
  · simpa [hbuffer] using hempty
  · exact h hnone hbuffer

/-! ### Steps that keep the framer's invariant -/

/-- From `s` to `t` the framer's invariant is kept. -/
def KeepsFramer (s t : State) : Prop := s.framerConsistent → t.framerConsistent

theorem KeepsFramer.refl (s : State) : KeepsFramer s s := id

theorem KeepsFramer.trans {s t u : State} (h : KeepsFramer s t) (k : KeepsFramer t u) : KeepsFramer s u := k ∘ h

theorem KeepsFramer.ite {c : Prop} [Decidable c] {s t u : State} (ht : c → KeepsFramer s t) (hu : ¬c → KeepsFramer s u) :
    KeepsFramer s (if c then t else u) := by
  split
  · exact ht ‹_›
  · exact hu ‹_›

/-- An operation that leaves the framer and REC_READY, which its laws mostly show by themselves. -/
theorem KeepsFramer.of_same {s t : State} (hrlf : t.rlf = s.rlf := by simp)
    (hready : t.pins.recReady = s.pins.recReady := by simp) : KeepsFramer s t := by
  unfold KeepsFramer State.framerConsistent State.fitsFreeSpace State.bufferBytes State.otherBytes
  rw [hrlf, hready]
  exact id

/-- R182: an empty framer meets the invariant wherever it comes from. -/
theorem KeepsFramer.of_initial {s t : State} (h : t.rlf = Rlf.initial) : KeepsFramer s t :=
  fun _ => State.framerConsistent_of_initial h

/-! ### Offers and batches (R170 to R175) -/

/-- R173: what is admitted outside the reserve leaves both limits. -/
theorem State.keepsFramer_offer (s : State) (p : Payload) : KeepsFramer s (s.offer p) := by
  unfold KeepsFramer
  rw [State.framerConsistent_iff, State.framerConsistent_iff]
  rintro ⟨hfit, hfront, hready⟩
  rcases s.offer_cases p with ⟨hspace, e⟩ | ⟨_, e⟩ <;> rw [e]
  · obtain ⟨hwaiting, hspace⟩ := (s.fitsOutsideReserve_iff p).mp hspace
    have hbytes := s.bufferBytes_eq
    refine ⟨hfit.admitFrame (by omega) (.inr (by omega)), fun a ha => ?_, hready.admitFrame p⟩
    rw [State.admitFrame_rlf, hwaiting] at ha
    cases ha
  · exact ⟨{ hfit with dropped := Nat.min_le_left _ _ }, hfront, hready⟩

/-- R174: an answer waits behind others, or for want of space. -/
theorem State.keepsFramer_offerAnswer (s : State) (a : Answer) : KeepsFramer s (s.offerAnswer a) := by
  unfold KeepsFramer
  rw [State.framerConsistent_iff, State.framerConsistent_iff]
  rintro ⟨hfit, hfront, hready⟩
  rcases s.offerAnswer_cases a with ⟨hwaiting, hspace, e⟩ | ⟨hwaits, e⟩ <;> rw [e]
  · refine ⟨hfit.admitAnswer hspace, fun b hb => ?_, hready.admitFrame _⟩
    rw [State.admitFrame_rlf, hwaiting] at hb
    cases hb
  · refine ⟨{ hfit with }, fun b hb => ?_, hready⟩
    rw [State.onRlf_rlf, List.head?_append] at hb
    cases hwaiting : s.rlf.waiting with
    | nil =>
      obtain rfl : a = b := by simpa [hwaiting] using hb
      exact hwaits.resolve_left (absurd hwaiting)
    | cons c rest => exact hfront b (by simpa [hwaiting] using hb)

/-- R170: a batch of fewer than 32 records. -/
theorem State.keepsFramer_setBatch (s : State) {batch : List PointRecord} (hroom : batch.length < Config.batchCapacity) :
    KeepsFramer s (s.onRlf fun r => { r with batch := batch }) := by
  rintro ⟨hbytes, hothers, _, hfront, hleaving, hready, hsealed, hdropped⟩
  exact ⟨hbytes, hothers, hroom, hfront, hleaving, hready, hsealed, hdropped⟩

/-- R170, R171: a batch of any length is closed and offered. -/
theorem State.framerConsistent_closeBatch {s : State}
    (h : (s.onRlf fun r => { r with batch := [] }).framerConsistent) : s.closeBatch.framerConsistent := by
  cases hbatch : s.rlf.batch with
  | nil =>
    have hsame : KeepsFramer (s.onRlf fun r => { r with batch := [] }) s :=
      KeepsFramer.of_same (by rw [State.onRlf_rlf, ← hbatch]) rfl
    rw [s.closeBatch_of_empty hbatch]
    exact hsame h
  | cons r rest =>
    unfold State.closeBatch
    rw [hbatch]
    exact State.keepsFramer_offer _ _ h

theorem State.keepsFramer_closeBatch (s : State) : KeepsFramer s s.closeBatch := fun h =>
  State.framerConsistent_closeBatch (s.keepsFramer_setBatch (batch := []) (by decide) h)

theorem State.keepsFramer_offerMarker (s : State) (p : Payload) : KeepsFramer s (s.offerMarker p) :=
  s.keepsFramer_closeBatch.trans (State.keepsFramer_offer _ p)

/-- R170: the 32nd record closes the batch. -/
theorem State.keepsFramer_placeRecord (s : State) (r : PointRecord) : KeepsFramer s (s.placeRecord r) := by
  intro h
  obtain ⟨hfit, _⟩ := s.framerConsistent_iff.mp h
  unfold State.placeRecord
  dsimp only
  split
  · exact State.framerConsistent_closeBatch (s.keepsFramer_setBatch (batch := []) (by decide) h)
  · rename_i hfull
    refine s.keepsFramer_setBatch (lt_of_le_of_ne ?_ hfull) h
    simpa using hfit.batch

theorem State.keepsFramer_batchAgeTest (s : State) : KeepsFramer s s.batchAgeTest :=
  KeepsFramer.ite (fun _ => s.keepsFramer_closeBatch) fun _ => KeepsFramer.refl s

/-! ### Departures and the wait list (R174, R176) -/

/-- R176: the departure test, whatever stood before it. -/
theorem State.FramesFit.tryDepart {s : State} (h : s.FramesFit) (hfront : s.FrontWaits) : s.tryDepart.framerConsistent := by
  rw [State.framerConsistent_iff]
  refine ⟨{ h with leaving := fun hleaves => ?_ }, hfront, fun hidle hbuffer => ?_⟩
  · rcases Bool.or_eq_true_iff.mp hleaves with hleaves | hstarts
    · exact h.leaving hleaves
    · obtain ⟨hsome, _⟩ := Bool.and_eq_true_iff.mp hstarts
      intro hnone
      rw [show s.rlf.buffer = [] from hnone] at hsome
      cases hsome
  · obtain ⟨_, hstays⟩ := Bool.or_eq_false_iff.mp hidle
    have hsome : s.rlf.buffer ≠ [] := hbuffer
    simpa [hsome] using hstays

/-- R174: each answer admitted from the front fits. -/
theorem admitWaiting_framesFit (as : List Answer) {s : State} (h : s.FramesFit) : (admitWaiting as s).FramesFit := by
  induction as generalizing s with
  | nil => exact { h with }
  | cons a rest ih =>
    unfold admitWaiting
    split
    · exact ih (h.admitAnswer ‹_›)
    · exact { h with }

/-- R174: the answers are admitted until the front one does not fit. -/
theorem admitWaiting_frontWaits (as : List Answer) (s : State) : (admitWaiting as s).FrontWaits := by
  induction as generalizing s with
  | nil => exact nofun
  | cons a rest ih =>
    unfold admitWaiting
    split
    · exact ih _
    · rename_i hspace
      rintro b hb
      obtain rfl : a = b := by simpa using hb
      exact Bool.eq_false_iff.mpr hspace

theorem admitWaiting_readyUsed (as : List Answer) {s : State} (h : s.ReadyUsed) : (admitWaiting as s).ReadyUsed := by
  induction as generalizing s with
  | nil => exact h
  | cons a rest ih =>
    unfold admitWaiting
    split
    · exact ih (h.admitFrame _)
    · exact h

theorem State.keepsFramer_admitAnswers (s : State) : KeepsFramer s s.admitAnswers := by
  unfold KeepsFramer
  rw [State.framerConsistent_iff, State.framerConsistent_iff]
  rintro ⟨hfit, _, hready⟩
  exact ⟨admitWaiting_framesFit _ hfit, admitWaiting_frontWaits _ _, admitWaiting_readyUsed _ hready⟩

/-- R176: the frame that has left frees its bytes. -/
theorem State.FramesFit.dropFront {s : State} (h : s.FramesFit) :
    (s.onRlf fun r => { r with buffer := r.buffer.tail, departing := false }).FramesFit := by
  have hbytes (fs : List OutFrame) (gs : List OutFrame) (hsub : fs.Sublist gs) : framesBytes fs ≤ framesBytes gs :=
    (hsub.map _).sum_le_sum fun _ _ => Nat.zero_le _
  have htail := List.tail_sublist s.rlf.buffer
  exact ⟨(hbytes _ _ htail).trans h.bytes, (hbytes _ _ (htail.filter _)).trans h.others, h.batch, nofun,
    fun f hf => h.sealed f (htail.subset hf), h.dropped⟩

theorem State.keepsFramer_endDeparture (s : State) : KeepsFramer s s.endDeparture := by
  refine KeepsFramer.ite (fun _ h => ?_) fun _ => KeepsFramer.refl s
  obtain ⟨hfit, _⟩ := s.framerConsistent_iff.mp h
  exact (admitWaiting_framesFit _ hfit.dropFront).tryDepart (admitWaiting_frontWaits _ _)

/-! ### The input lines (R176, log entry 2) -/

/-- REC_READY at any level, followed by the departure test. -/
theorem State.keepsFramer_rise (s : State) (f : Pins → Pins) : KeepsFramer s (s.onPins f).tryDepart := by
  intro h
  obtain ⟨hfit, hfront, _⟩ := s.framerConsistent_iff.mp h
  exact State.FramesFit.tryDepart (s := s.onPins f) { hfit with } hfront

/-- A REC_READY that falls starts no departure, and one that rises is followed by the departure test. -/
theorem State.keepsFramer_withLines (s : State) (l : Lines) : KeepsFramer s (s.withLines l) := by
  refine KeepsFramer.ite (fun _ => s.keepsFramer_rise _) fun hrise => ?_
  rintro ⟨hbytes, hothers, hbatch, hfront, hleaving, hready, hsealed, hdropped⟩
  refine ⟨hbytes, hothers, hbatch, hfront, hleaving, fun hidle hbuffer => ?_, hsealed, hdropped⟩
  have hlow : s.pins.recReady = false := hready hidle hbuffer
  simpa [hlow] using hrise

end Sys2Proof.Machine
end

section
/-! PROOFS. Records, commands, rows and steps keep the framer's invariant (O57). -/

namespace Sys2Proof.Machine

/-! ### Closing and resyncs -/

theorem State.keepsFramer_pipelineRequest (s : State) : KeepsFramer s s.pipelineRequest := KeepsFramer.of_same

/-- R97: a sweep change offers its marker. -/
theorem State.keepsFramer_sweepTest (s : State) (p : Pulse) : KeepsFramer s (s.sweepTest p) := by
  have hmarker := s.keepsFramer_offerMarker (.swp p.sweep p.seq p.facet)
  exact KeepsFramer.ite (fun _ => KeepsFramer.refl s) fun _ => hmarker.trans KeepsFramer.of_same

/-- R100: a record reaches the batch behind the Trigger Unit. -/
theorem keepsFramer_passRecords (rs : List PointRecord) (s : State) : KeepsFramer s (passRecords rs s) := by
  induction rs generalizing s with
  | nil => exact KeepsFramer.refl s
  | cons r rest ih =>
    have htest : KeepsFramer s (s.triggerPass r).1 := KeepsFramer.of_same
    exact (htest.trans (State.keepsFramer_placeRecord _ _)).trans (ih _)

theorem State.keepsFramer_formPoints (s : State) (p : Pulse) (evicted : Bool) : KeepsFramer s (s.formPoints p evicted) :=
  ((s.keepsFramer_sweepTest p).trans (State.keepsFramer_pipelineRequest _)).trans (keepsFramer_passRecords _ _)

/-- R43, R171: the entry to STOPPED closes the batch. -/
theorem State.keepsFramer_enterStopped (s : State) : KeepsFramer s s.enterStopped :=
  KeepsFramer.trans KeepsFramer.of_same (State.keepsFramer_closeBatch _)

theorem State.keepsFramer_drainTest (s : State) : KeepsFramer s s.drainTest :=
  KeepsFramer.ite (fun _ => s.keepsFramer_enterStopped) fun _ => KeepsFramer.refl s

theorem State.keepsFramer_closeHead (s : State) (evicted : Bool) : KeepsFramer s (s.closeHead evicted) := by
  cases h : s.emq.queue with
  | nil => rw [State.closeHead_of_empty s h]; exact KeepsFramer.refl s
  | cons p rest =>
    have hformed := State.keepsFramer_formPoints { s with emq := { s.emq with queue := rest } } p evicted
    rw [State.closeHead_of_cons h]
    exact KeepsFramer.trans hformed
      (KeepsFramer.trans (KeepsFramer.of_same (by rfl) (by rfl)) (State.keepsFramer_drainTest _))

theorem keepsFramer_closeExpired (n : Nat) (s : State) : KeepsFramer s (closeExpired n s) := by
  induction n generalizing s with
  | zero => exact KeepsFramer.refl s
  | succ n ih =>
    unfold closeExpired
    split
    · exact KeepsFramer.refl s
    · exact KeepsFramer.ite
        (fun _ => (s.keepsFramer_pipelineRequest.trans (State.keepsFramer_closeHead _ _)).trans (ih _))
        fun _ => s.keepsFramer_pipelineRequest

theorem State.keepsFramer_pulseClose (s : State) : KeepsFramer s s.pulseClose := by
  unfold State.pulseClose
  split
  · exact KeepsFramer.refl s
  · exact KeepsFramer.ite (fun _ => s.keepsFramer_pipelineRequest.trans (State.keepsFramer_closeHead _ _))
      fun _ => s.keepsFramer_pipelineRequest

/-- R52: a resync that ends a drain enters STOPPED. -/
theorem State.keepsFramer_endResync (s : State) (reason : ResyncReason) : KeepsFramer s (s.endResync reason) := by
  unfold State.endResync
  cases s.emq.run with
  | running => cases reason <;> exact KeepsFramer.of_same
  | draining => exact s.keepsFramer_enterStopped
  | stopped => exact KeepsFramer.refl s
  | waiting => exact KeepsFramer.refl s

/-- R53: a resync offers its marker. -/
theorem State.keepsFramer_doResync (s : State) (reason : ResyncReason) : KeepsFramer s (s.doResync reason) :=
  (KeepsFramer.trans (KeepsFramer.of_same (by rfl) (by rfl)) (State.keepsFramer_offerMarker _ _)).trans
    (State.keepsFramer_endResync _ reason)

theorem State.keepsFramer_askResync (s : State) (reason : ResyncReason) : KeepsFramer s (s.askResync reason) := by
  rcases s.askResync_cases reason with ⟨_, e⟩ | ⟨_, e⟩ <;> rw [e]
  · exact s.keepsFramer_doResync reason
  · exact KeepsFramer.refl s

/-! ### The tracker -/

/-- An update of a channel that raises an event and may ask for a resync, as INDEX records and samples make them. -/
theorem State.keepsFramer_onAnt_askResync (s : State) (f : Ant → Ant) (e : Event) (reason : ResyncReason) :
    KeepsFramer s (((s.onAnt f).raise e).askResync reason) :=
  KeepsFramer.trans KeepsFramer.of_same (State.keepsFramer_askResync _ reason)

theorem State.keepsFramer_handleIndex (s : State) (id : ChannelId) (raw : RawCount) :
    KeepsFramer s (s.handleIndex id raw) :=
  KeepsFramer.ite (fun _ => s.keepsFramer_onAnt_askResync _ _ _) fun _ => KeepsFramer.of_same

theorem State.keepsFramer_handleSample (s : State) (id : ChannelId) (raw : RawCount) :
    KeepsFramer s (s.handleSample id raw) := by
  unfold State.handleSample
  dsimp only
  split
  · exact KeepsFramer.of_same
  · exact KeepsFramer.of_same
  · exact s.keepsFramer_onAnt_askResync _ _ _

theorem State.keepsFramer_track (s : State) (mirror azimuth : RawCount) : KeepsFramer s (s.track mirror azimuth).1 := by
  have hport : KeepsFramer s (State.pipelineRequests (trackerRequests s.ant) s) := KeepsFramer.of_same
  have hsamples := (hport.trans (State.keepsFramer_handleSample _ .mirror mirror)).trans
    (State.keepsFramer_handleSample _ .azimuth azimuth)
  exact hsamples.trans (KeepsFramer.of_same rfl rfl)

/-! ### The Exposure Unit (R128, R135, R137 to R142) -/

/-- R133, R135: an exposure drives CAM_TRIG and offers its EXP. -/
theorem State.keepsFramer_makeExposure (s : State) (i : Nat) (v : PulseView) : KeepsFramer s (s.makeExposure i v) := by
  have hdrive (u : State) (f : Exu → Exu) : KeepsFramer u ((u.onExu f).onPins fun p => { p with camTrig := true }) :=
    KeepsFramer.of_same
  exact (s.keepsFramer_pipelineRequest.trans (hdrive _ _)).trans (State.keepsFramer_offer _ _)

theorem State.keepsFramer_tryExposure (s : State) (first : Bool) (i : Nat) (v : PulseView) :
    KeepsFramer s (s.tryExposure first i v) :=
  KeepsFramer.ite (fun _ => s.keepsFramer_pipelineRequest.trans (State.keepsFramer_makeExposure _ i v))
    fun _ => KeepsFramer.of_same

theorem keepsFramer_compareTargets (prev lead : Azimuth) (v : PulseView) (n : Nat) (first : Bool) (s : State) :
    KeepsFramer s (compareTargets prev lead v n first s) := by
  induction n generalizing s first with
  | zero => exact KeepsFramer.refl s
  | succ n ih =>
    cases hpointer : s.exu.pointer with
    | none =>
      rw [compareTargets_of_none hpointer]
      exact KeepsFramer.refl s
    | some i =>
      by_cases hcross : crossed (s.planEntry i).target prev lead = true
      · rw [compareTargets_of_crossed hpointer hcross]
        have hpoint (u : State) (next : Option Nat) : KeepsFramer u (u.onExu fun x => { x with pointer := next }) :=
          KeepsFramer.of_same
        exact ((s.keepsFramer_tryExposure first i v).trans (hpoint _ _)).trans (ih false _)
      · rw [compareTargets_of_not_crossed hpointer hcross]
        exact s.keepsFramer_pipelineRequest

theorem State.keepsFramer_comparePlan (s : State) (lead : Azimuth) (v : PulseView) :
    KeepsFramer s (s.comparePlan lead v) := by
  unfold State.comparePlan
  split
  · exact KeepsFramer.refl s
  · exact keepsFramer_compareTargets _ lead v _ true s

/-- R142: a TLR for each record that timed out. -/
theorem keepsFramer_reportTimeouts (rs : List Exposure) (s : State) : KeepsFramer s (reportTimeouts rs s) := by
  induction rs generalizing s with
  | nil => exact KeepsFramer.refl s
  | cons r rest ih =>
    have hevent : KeepsFramer s (s.raise .tileTimeout) := KeepsFramer.of_same
    exact (hevent.trans (State.keepsFramer_offer _ _)).trans (ih _)

theorem State.keepsFramer_timeoutStep (s : State) (laser : Azimuth) : KeepsFramer s (s.timeoutStep laser) :=
  KeepsFramer.trans KeepsFramer.of_same (keepsFramer_reportTimeouts _ _)

theorem State.keepsFramer_exposureWork (s : State) (v : PulseView) : KeepsFramer s (s.exposureWork v).1 := by
  by_cases hacts : s.exposureUnitActs = true
  · rw [State.exposureWork_of_acts hacts]
    have hseek : KeepsFramer s (s.seekPlan (s.leadAzimuth v.azimuth)) := KeepsFramer.of_same
    exact ((hseek.trans (State.keepsFramer_comparePlan _ _ v)).trans (State.keepsFramer_timeoutStep _ _)).trans
      (KeepsFramer.of_same rfl rfl)
  · rw [State.exposureWork_of_idle hacts]
    exact KeepsFramer.refl s

/-- R141: every TILE is reported in a TLR. -/
theorem State.keepsFramer_handleTile (s : State) (n : BitVec 16) (status : TileStatus) (cols rows : Nat)
    (cells : List Rgb) : KeepsFramer s (s.handleTile n status cols rows cells) := by
  have hreport {u : State} (p : Payload) (hrlf : u.rlf = s.rlf) (hready : u.pins.recReady = s.pins.recReady) :
      KeepsFramer s (u.offer p) := (KeepsFramer.of_same hrlf hready).trans (u.keepsFramer_offer p)
  unfold State.handleTile
  split
  · exact hreport _ rfl rfl
  · cases status with
    | failed => exact hreport _ rfl rfl
    | busy => exact hreport _ rfl rfl
    | ok => exact KeepsFramer.ite (fun _ => hreport _ rfl rfl) fun _ => hreport _ rfl rfl

/-! ### FIRE records -/

theorem State.keepsFramer_tryStart (s : State) : KeepsFramer s s.tryStart := KeepsFramer.of_same

/-- R46: an eviction closes the head. -/
theorem State.keepsFramer_makeRoom (s : State) : KeepsFramer s s.makeRoom := by
  refine KeepsFramer.ite (fun _ => ?_) fun _ => KeepsFramer.refl s
  obtain ⟨first, hevict⟩ := s.evictHead_eq
  rw [hevict]
  have hfirst : KeepsFramer s (if first then s.raise .queueEvict else s).drawFree := by
    cases first <;> exact KeepsFramer.of_same
  exact (hfirst.trans (State.keepsFramer_closeHead _ true)).trans (KeepsFramer.of_same rfl rfl)

theorem State.keepsFramer_judgePulse (s : State) (t : Timestamp) (k : Handoff) : KeepsFramer s (s.judgePulse t k) := by
  rcases s.judgePulse_cases t k with e | e | ⟨m, azimuth, _, _, _, _, _, _, e⟩ <;> rw [e]
  · exact KeepsFramer.refl s
  · exact KeepsFramer.of_same
  · exact (s.keepsFramer_makeRoom.trans (State.keepsFramer_exposureWork _ _)).trans (KeepsFramer.of_same rfl rfl)

theorem State.keepsFramer_considerPulse (s : State) (t : Timestamp) (k : Handoff) :
    KeepsFramer s (s.considerPulse t k) := by
  unfold State.considerPulse
  cases s.emq.run with
  | stopped => exact KeepsFramer.refl s
  | draining => exact KeepsFramer.refl s
  | running => exact s.keepsFramer_judgePulse t k
  | waiting =>
    exact KeepsFramer.ite (fun _ => s.keepsFramer_tryStart.trans (State.keepsFramer_judgePulse _ t k))
      fun _ => KeepsFramer.refl s

theorem State.keepsFramer_handleFire (s : State) (t : Timestamp) (mirror azimuth : RawCount) :
    KeepsFramer s (s.handleFire t mirror azimuth) := by
  have hpulse := (s.keepsFramer_track mirror azimuth).trans
    (State.keepsFramer_considerPulse _ t (s.track mirror azimuth).2)
  exact KeepsFramer.ite (fun _ => hpulse.trans KeepsFramer.of_same) fun _ => hpulse

/-! ### Commands -/

/-- R187: a command refused for its length changes nothing. -/
theorem KeepsFramer.ofLength {s : State} {k : Reply} (h : KeepsFramer s k.state) (n : Nat) (args : List Byte) :
    KeepsFramer s (Reply.ofLength n args s k).state := by
  unfold Reply.ofLength
  split
  · exact h
  · exact KeepsFramer.refl s

theorem State.keepsFramer_stop (s : State) (args : List Byte) : KeepsFramer s (cmdStop args s).state := by
  refine KeepsFramer.ofLength ?_ 0 args
  cases s.emq.run with
  | running =>
    dsimp only
    split
    · exact s.keepsFramer_enterStopped
    · exact KeepsFramer.of_same rfl rfl
  | waiting => exact s.keepsFramer_enterStopped
  | stopped => exact KeepsFramer.refl s
  | draining => exact KeepsFramer.refl s

/-- R187: what a command other than TABLE_READ does. -/
theorem State.keepsFramer_replyTo (s : State) (c : Command) : KeepsFramer s (replyTo c s).state := by
  have hresync : KeepsFramer s (cmdResync c.args s).state :=
    KeepsFramer.ofLength (k := State.accept _ []) (s.keepsFramer_doResync .command) 0 c.args
  have hreset : KeepsFramer s (cmdReset c.args s).state :=
    KeepsFramer.ofLength (k := State.accept _ []) (KeepsFramer.of_initial rfl) 0 c.args
  refine replyTo_cases s c (fun r => KeepsFramer s r.state) ?_ ?_ ?_ ?_ ?_ ?_ ?_ ?_ ?_ ?_ ?_ ?_
    (s.keepsFramer_stop c.args) hresync ?_ ?_ ?_ ?_ hreset (KeepsFramer.refl s) <;>
    exact KeepsFramer.of_same

/-- R188: the answer follows what the reply has done. -/
theorem KeepsFramer.send {s : State} {r : Reply} (h : KeepsFramer s r.state) (c : Command) : KeepsFramer s (r.send c) :=
  h.trans (State.keepsFramer_offerAnswer _ _)

theorem State.keepsFramer_takeCommand (s : State) (c : Command) : KeepsFramer s (s.takeCommand c) := by
  rcases s.takeCommand_cases c with ⟨r, _, _, e⟩ | ⟨x, _, _, e⟩ | ⟨_, e⟩ <;> rw [e]
  · exact KeepsFramer.of_same
  · exact KeepsFramer.send (r := s.refuse x) (KeepsFramer.refl s) c
  · exact (s.keepsFramer_replyTo c).send c

theorem State.keepsFramer_deliverCommand (s : State) (c : Command) : KeepsFramer s (s.deliverCommand c) := by
  rcases s.deliverCommand_cases c with ⟨_, _, e⟩ | ⟨_, _, e⟩ | ⟨_, _, e⟩ <;> rw [e]
  · exact s.keepsFramer_takeCommand c
  · exact KeepsFramer.of_same
  · exact KeepsFramer.send (r := s.refuse .busy) (KeepsFramer.refl s) c

theorem keepsFramer_drainCommands (n : Nat) (s : State) : KeepsFramer s (drainCommands n s) := by
  induction n generalizing s with
  | zero => exact KeepsFramer.refl s
  | succ n ih =>
    unfold drainCommands
    split
    · rename_i c rest _ _
      have hqueue : KeepsFramer s (s.onCmi fun m => { m with queue := rest }) := KeepsFramer.of_same
      exact (hqueue.trans (State.keepsFramer_takeCommand _ c)).trans (ih _)
    · exact KeepsFramer.refl s

/-- R121, R186: the end of a row. -/
theorem State.keepsFramer_settleRead (s : State) : KeepsFramer s s.settleRead := by
  have hanswer : KeepsFramer s s.answerRead := by
    rcases s.answerRead_cases with ⟨r, _, _, e⟩ | ⟨_, e⟩ <;> rw [e]
    · exact KeepsFramer.trans KeepsFramer.of_same (State.keepsFramer_offerAnswer _ _)
    · exact KeepsFramer.refl s
  unfold State.settleRead
  rcases s.answerRead.takeQueued_cases with ⟨_, _, n, e⟩ | ⟨_, e⟩ <;> rw [e]
  · exact hanswer.trans (keepsFramer_drainCommands n s.answerRead.drawFree)
  · exact hanswer

/-! ### Records and frames -/

/-- Section 1.5: where every handling of a record keeps the invariant, the record does. -/
theorem State.keepsFramer_timed (s : State) (t : Timestamp) {handle : State → State}
    (hk : ∀ u : State, KeepsFramer u (handle u)) : KeepsFramer s (s.timed t handle) := by
  have htime : KeepsFramer s (s.setTime t) := KeepsFramer.of_same
  have hadvance : KeepsFramer s (s.advance t) :=
    (htime.trans (keepsFramer_closeExpired _ _)).trans (s.setTime t).closing.keepsFramer_batchAgeTest
  rcases s.timed_cases t handle with ⟨_, e⟩ | ⟨_, e⟩ | ⟨_, e⟩ | ⟨_, e⟩ <;> rw [e]
  · exact hadvance.trans (hk _)
  · exact hk s
  · exact hk s
  · exact htime.trans (State.keepsFramer_askResync _ .timeJump)

/-- Section 1.4: a delivered record of any kind; an ECHO does not reach the framer. -/
theorem State.keepsFramer_deliver (s : State) (r : Record) : KeepsFramer s (s.deliver r) := by
  cases r with
  | fire t m a => exact s.keepsFramer_timed t fun u => u.keepsFramer_handleFire t m a
  | echo t a w => exact s.keepsFramer_timed t fun u => KeepsFramer.of_same
  | tick t => exact s.keepsFramer_timed t KeepsFramer.refl
  | index c raw => exact s.keepsFramer_handleIndex c raw
  | tile n st cols rows cells =>
    exact KeepsFramer.ite (fun _ => s.keepsFramer_handleTile n st _ _ cells) fun _ => KeepsFramer.of_same
  | cmd c => exact KeepsFramer.ite (fun _ => s.keepsFramer_deliverCommand c) fun _ => KeepsFramer.of_same

theorem State.keepsFramer_classified (s : State) (kind : Byte) (payload : List Byte) :
    KeepsFramer s (s.classified kind payload) := by
  unfold State.classified
  split
  · exact s.keepsFramer_deliver _
  · exact KeepsFramer.of_same

/-- R4: the loss of the link asks for a resync. -/
theorem State.keepsFramer_frameFails (s : State) : KeepsFramer s s.frameFails := by
  unfold State.frameFails
  split
  · exact KeepsFramer.of_same
  · exact KeepsFramer.ite (fun _ => KeepsFramer.of_same) fun _ =>
      KeepsFramer.trans (KeepsFramer.of_same (by rfl) (by rfl)) (State.keepsFramer_askResync _ .linkLost)

theorem State.keepsFramer_receiveBytes (s : State) (bytes : List Byte) : KeepsFramer s (s.receiveBytes bytes) := by
  have hpassed : KeepsFramer s s.passed := KeepsFramer.of_same
  rcases s.receiveBytes_cases bytes with ⟨_, e⟩ | ⟨_, _, e⟩ | ⟨_, _, _, e⟩ | ⟨_, kind, payload, _, e⟩ <;> rw [e]
  · exact KeepsFramer.refl s
  · exact s.keepsFramer_frameFails
  · exact KeepsFramer.of_same
  · exact hpassed.trans (State.keepsFramer_classified _ kind payload)

theorem State.keepsFramer_receiveRecord (s : State) (r : Record) : KeepsFramer s (s.receiveRecord r) := by
  have hpassed : KeepsFramer s s.passed := KeepsFramer.of_same
  rcases s.receiveRecord_cases r with ⟨_, e⟩ | ⟨_, _, e⟩ | ⟨_, e⟩ <;> rw [e]
  · exact KeepsFramer.refl s
  · exact KeepsFramer.of_same
  · exact hpassed.trans (State.keepsFramer_deliver _ r)

/-! ### Rows and steps -/

theorem State.keepsFramer_atLines (s : State) (o : Option Lines) : KeepsFramer s (s.atLines o) := by
  cases o with
  | none => exact KeepsFramer.refl s
  | some l => exact s.keepsFramer_withLines l

/-- A row that ends by settling the read. -/
theorem KeepsFramer.settled {s u t : State} (h : KeepsFramer s u) (he : u.settled = .next t) : KeepsFramer s t := by
  cases he
  exact h.trans u.keepsFramer_settleRead

/-- A row that settles the read after an operation that leaves the framer and REC_READY. -/
theorem KeepsFramer.of_settled {s u t : State} (he : u.settled = .next t) (hrlf : u.rlf = s.rlf := by simp)
    (hready : u.pins.recReady = s.pins.recReady := by simp) : KeepsFramer s t :=
  (KeepsFramer.of_same hrlf hready).settled he

theorem exec_keepsFramer {i : Instr} {s t : State} (he : exec i s = .next t) : KeepsFramer s t := by
  cases hr : recordOf i with
  | some ro =>
    obtain ⟨r, o⟩ := ro
    rw [exec_of_recordOf s hr] at he
    exact ((s.keepsFramer_atLines o).trans (State.keepsFramer_receiveRecord _ r)).settled he
  | none =>
    cases i with
    | powerOnReset l => cases he; exact KeepsFramer.of_initial rfl
    | lineReset => cases he; exact KeepsFramer.of_initial rfl
    | resetNRelease l => cases he; exact KeepsFramer.trans KeepsFramer.of_same (State.keepsFramer_withLines _ l)
    | frameCheckFail bytes => exact (s.keepsFramer_receiveBytes bytes).settled he
    | huntFrame bytes => exact (s.keepsFramer_receiveBytes bytes).settled he
    | frameRefused bytes => exact (s.keepsFramer_receiveBytes bytes).settled he
    | tableReadFetch l =>
      have hgrant : KeepsFramer (s.withLines l) (s.withLines l).grantCommand := KeepsFramer.of_same
      exact ((s.keepsFramer_withLines l).trans hgrant).settled he
    | pulseClose => exact s.keepsFramer_pulseClose.settled he
    | batchFlush => exact s.keepsFramer_batchAgeTest.settled he
    | l2WindowEnd =>
      exact (KeepsFramer.ite (fun _ => KeepsFramer.of_same) fun _ => KeepsFramer.refl s).settled he
    | captureFull =>
      exact (KeepsFramer.ite (fun _ => KeepsFramer.of_same) fun _ => KeepsFramer.refl s).settled he
    | tileTimeout laser =>
      exact (KeepsFramer.ite (fun _ => s.keepsFramer_timeoutStep laser) fun _ => KeepsFramer.refl s).settled he
    | tileRetire laser =>
      exact (KeepsFramer.ite (fun _ => KeepsFramer.of_same) fun _ => KeepsFramer.refl s).settled he
    | generationSwitch => exact KeepsFramer.of_settled he
    | streamStarted => exact KeepsFramer.of_settled he
    | drainEnd => exact s.keepsFramer_drainTest.settled he
    | recReadyRise => exact (s.keepsFramer_rise _).settled he
    | frameDepartureEnd l =>
      have hlines := s.keepsFramer_withLines l
      exact (KeepsFramer.ite (fun _ => hlines.trans (State.keepsFramer_endDeparture _)) fun _ => hlines).settled he
    | rspWaitAdmit => exact s.keepsFramer_admitAnswers.settled he
    | camTrigPulseEnd => exact KeepsFramer.of_settled he
    | _ => cases hr

/-- Settles O57: every row and the idle step keep the invariant, and a row's removal from the queue of commands leaves it. -/
theorem framerStaysConsistent : Obligations.FramerStaysConsistent := by
  intro s t h hstep
  unfold step at hstep
  split at hstep
  · cases hstep
    exact keepsFramer_drainCommands 1 s h
  · rename_i i rest _
    exact exec_keepsFramer (s := { s with pending := rest }) hstep h

end Sys2Proof.Machine
end

section
/-! PROOFS. Admission and refusal (O44), departures, batches and their age (O45). -/

namespace Sys2Proof.Machine

/-! ### The kinds of payload (section 11.2) -/

theorem Payload.isRsp_eq (p : Payload) : p.isRsp = decide (p.kind = 0x86#8) := by cases p <;> rfl

theorem Payload.isPts_eq (p : Payload) : p.isPts = decide (p.kind = 0x81#8) := by cases p <;> rfl

/-- R175: only a PTS carries points. -/
theorem Payload.points_of_not_pts {p : Payload} (h : p.isPts = false) : p.points = 0 := by
  cases p with
  | pts rs => cases h
  | _ => rfl

/-! ### Offers (R173 to R175) -/

theorem State.offer_of_fits {s : State} {p : Payload} (h : s.fitsOutsideReserve p = true) : s.offer p = s.admitFrame p :=
  if_pos h

theorem State.offer_of_not_fits {s : State} {p : Payload} (h : ¬s.fitsOutsideReserve p = true) :
    s.offer p = s.refuseFrame p := if_neg h

/-- R174: when an answer is admitted at once. -/
theorem State.admitsAnswer_iff (s : State) (a : Answer) :
    (s.rlf.waiting.isEmpty && s.fitsFreeSpace (.rsp a)) = true ↔
      s.rlf.waiting = [] ∧ s.bufferBytes + (Payload.rsp a).frameLength ≤ Config.bufferCapacity := by
  rw [Bool.and_eq_true, List.isEmpty_iff, State.fitsFreeSpace_iff]

/-- Settles O44: the three byte counts are sums over the buffer, and each offer goes by its one test. -/
theorem framesAreAdmittedOrRefused : Obligations.FramesAreAdmittedOrRefused := by
  refine ⟨fun s => ?_, fun p => ⟨p.isPts_eq, ?_, Payload.points_of_not_pts⟩, fun s p => ?_⟩
  · intro bytes
    refine ⟨?_, ?_, ?_, s.fitsFreeSpace_iff⟩
    · simp only [bytes, List.filter_true]
      rfl
    · simp only [State.rspBytes, Payload.isRsp_eq]
      rfl
    · simp only [State.otherBytes, Payload.isRsp_eq, ← decide_not]
      rfl
  · rintro rs rfl
    rfl
  · intro gap frame joined fits
    have hfits : s.fitsOutsideReserve p = true ↔ fits := s.fitsOutsideReserve_iff p
    refine ⟨fun h => State.offer_of_fits (hfits.mpr h), fun h => State.offer_of_not_fits (mt hfits.mp h), ?_⟩
    rintro a rfl
    exact ⟨fun h => if_pos ((s.admitsAnswer_iff a).mpr h), fun h => if_neg (mt (s.admitsAnswer_iff a).mp h)⟩

/-! ### The wait list (R174) -/

/-- The wait list that stood before the answers are admitted plays no part. -/
theorem admitWaiting_setWaiting (as : List Answer) (s : State) (waiting : List Answer) :
    admitWaiting as (s.onRlf fun r => { r with waiting := waiting }) = admitWaiting as s := by
  induction as generalizing s with
  | nil => rfl
  | cons a rest ih =>
    unfold admitWaiting
    rw [← ih (s.admitFrame (.rsp a))]
    rfl

theorem State.admitAnswers_of_empty {s : State} (h : s.rlf.waiting = []) : s.admitAnswers = s := by
  unfold State.admitAnswers
  rw [h, admitWaiting, ← h]
  rfl

theorem State.admitAnswers_of_full {s : State} {a : Answer} {rest : List Answer} (h : s.rlf.waiting = a :: rest)
    (hfull : s.fitsFreeSpace (.rsp a) = false) : s.admitAnswers = s := by
  unfold State.admitAnswers
  rw [h, admitWaiting, if_neg (by simp [hfull]), ← h]
  rfl

theorem State.admitAnswers_of_fits {s : State} {a : Answer} {rest : List Answer} (h : s.rlf.waiting = a :: rest)
    (hfits : s.fitsFreeSpace (.rsp a) = true) :
    s.admitAnswers = (State.admitFrame (s.onRlf fun r => { r with waiting := rest }) (.rsp a)).admitAnswers := by
  unfold State.admitAnswers
  rw [h, admitWaiting, if_pos hfits]
  exact (admitWaiting_setWaiting rest (s.admitFrame (.rsp a)) rest).symm

/-- R174: the answers that leave the wait list join the buffer in their order. -/
theorem admitWaiting_splits (as : List Answer) (s : State) :
    ∃ k ≤ as.length, (admitWaiting as s).rlf.waiting = as.drop k ∧
      (admitWaiting as s).rlf.buffer.map OutFrame.payload =
        s.rlf.buffer.map OutFrame.payload ++ (as.take k).map Payload.rsp := by
  induction as generalizing s with
  | nil => exact ⟨0, Nat.le_refl 0, rfl, by simp [admitWaiting]⟩
  | cons a rest ih =>
    unfold admitWaiting
    split
    · obtain ⟨k, hk, hwaiting, hbuffer⟩ := ih (s.admitFrame (.rsp a))
      exact ⟨k + 1, Nat.succ_le_succ hk, hwaiting, by simp [hbuffer, State.admitFrame_rlf]⟩
    · exact ⟨0, Nat.zero_le _, rfl, by simp⟩

/-! ### Departures (R176) -/

/-- The departure test, its REC_READY known. -/
theorem State.tryDepart_eq {s : State} {ready : Bool} (h : s.pins.recReady = ready) :
    s.tryDepart =
      { s with rlf := { s.rlf with departing := s.rlf.departing || (!s.rlf.buffer.isEmpty && ready) } } := by
  subst h
  rfl

theorem exec_recReadyRise (s : State) :
    exec .recReadyRise s = .next
      (State.settleRead
        { s with
          pins := { s.pins with recReady := true }
          rlf := { s.rlf with departing := s.rlf.departing || !s.rlf.buffer.isEmpty } }) := by
  change State.settled _ = _
  rw [State.tryDepart_eq (ready := true) rfl, Bool.and_true]
  rfl

/-- Log entry 10: with no frame leaving, the row samples its lines. -/
theorem exec_frameDepartureEnd_of_idle {s : State} (h : s.rlf.departing = false) (l : Lines) :
    exec (.frameDepartureEnd l) s = .next
      (State.settleRead
        { s with
          pins := { s.pins with calEn := l.calEn, recReady := l.recReady }
          rlf := { s.rlf with departing := l.recReady && !s.pins.recReady && !s.rlf.buffer.isEmpty } }) := by
  change State.settled (if s.rlf.departing then _ else _) = _
  rw [if_neg (by simp [h]), State.withLines_eq, h, Bool.false_or]
  rfl

/-- R176: the end of a departure, its three parts in order. -/
theorem exec_frameDepartureEnd_of_leaving {s : State} (h : s.rlf.departing = true) (l : Lines) :
    let u : State :=
      State.admitAnswers
        { s with
          pins := { s.pins with calEn := l.calEn, recReady := l.recReady }
          rlf := { s.rlf with buffer := s.rlf.buffer.tail, departing := false } }
    exec (.frameDepartureEnd l) s = .next
      (State.settleRead
        { u with rlf := { u.rlf with departing := u.rlf.departing || (!u.rlf.buffer.isEmpty && l.recReady) } }) := by
  intro u
  have hlines : (s.withLines l).rlf.departing = true := by
    rw [State.withLines_eq, h]
    rfl
  have hu : ((s.withLines l).onRlf fun r => { r with buffer := r.buffer.tail, departing := false }).admitAnswers = u := by
    rw [State.withLines_eq]
    rfl
  have hready : u.pins.recReady = l.recReady := by simp [u]
  change State.settled (if s.rlf.departing then _ else _) = _
  rw [if_pos h, State.endDeparture, if_pos hlines, hu, State.tryDepart_eq hready]
  rfl

/-! ### Batches and their age (R170 to R172) -/

theorem State.closeBatch_of_ne_nil {s : State} (h : s.rlf.batch ≠ []) :
    s.closeBatch = State.offer { s with rlf := { s.rlf with batch := [] } } (.pts s.rlf.batch) := by
  cases hbatch : s.rlf.batch with
  | nil => exact absurd hbatch h
  | cons r rest =>
    unfold State.closeBatch
    rw [hbatch]
    rfl

/-- R172: when the open batch is too old. -/
theorem State.batchExpired_iff (s : State) :
    s.batchExpired = true ↔
      ∃ now r rest, s.hlr.streamTime = some now ∧ s.rlf.batch = r :: rest ∧ s.params.batchFlush < (now - r.tFire).toNat := by
  unfold State.batchExpired
  cases s.hlr.streamTime <;> cases s.rlf.batch <;> simp

/-- R172: an open batch goes by the age of its first record. -/
theorem State.batchAgeTest_of_open {s : State} {now : Timestamp} {r : PointRecord} {rest : List PointRecord}
    (htime : s.hlr.streamTime = some now) (hbatch : s.rlf.batch = r :: rest) :
    s.batchAgeTest = if s.params.batchFlush < (now - r.tFire).toNat then s.closeBatch else s :=
  if_congr (by simp [State.batchExpired_iff, htime, hbatch]) rfl rfl

/-- Log entry 28: an empty batch and an unset stream time have no age. -/
theorem State.batchAgeTest_of_ageless {s : State} (h : s.rlf.batch = [] ∨ s.hlr.streamTime = none) :
    s.batchAgeTest = s := by
  refine if_neg fun hexpired => ?_
  obtain ⟨now, r, rest, htime, hbatch, _⟩ := s.batchExpired_iff.mp hexpired
  simp [htime, hbatch] at h

/-- Settles O45: the rows by whether a frame is leaving, the wait list from its front, the batch by its first record. -/
theorem departuresAndBatchAge : Obligations.DeparturesAndBatchAge := by
  refine ⟨fun s => ⟨exec_recReadyRise s, fun l h => exec_frameDepartureEnd_of_idle h l,
    fun l h => exec_frameDepartureEnd_of_leaving h l, rfl, State.admitAnswers_of_empty,
    fun a rest => State.admitAnswers_of_full, fun a rest => State.admitAnswers_of_fits, ?_⟩, fun s => ?_⟩
  · obtain ⟨k, hk, hwaiting, hbuffer⟩ := admitWaiting_splits s.rlf.waiting s
    exact ⟨k, hk, hwaiting, hbuffer, admitWaiting_frontWaits s.rlf.waiting s⟩
  · refine ⟨State.closeBatch_of_ne_nil, s.closeBatch_of_empty, fun _ => rfl, rfl, fun now r rest htime hbatch => ?_,
      State.batchAgeTest_of_ageless⟩
    have hclosed := State.closeBatch_of_ne_nil (hbatch ▸ List.cons_ne_nil r rest)
    rw [State.batchAgeTest_of_open htime hbatch]
    exact ⟨fun hold => (if_pos hold).trans hclosed, fun hyoung => if_neg hyoung.not_gt⟩

end Sys2Proof.Machine
end

section
/-! PROOFS. READ_EVENTS, CLEAR_EVENTS and the alert lines (O46). -/

namespace Sys2Proof.Machine

/-! ### Words of flags (R178, R179) -/

/-- R201: three bytes spell the word that they make side by side. -/
theorem beNat_three (b2 b1 b0 : Byte) : beNat [b2, b1, b0] = (b2 ++ b1 ++ b0).toNat := by
  rw [BitVec.toNat_append, BitVec.toNat_append, ← Nat.shiftLeft_add_eq_or_of_lt b1.isLt,
    ← Nat.shiftLeft_add_eq_or_of_lt b0.isLt, Nat.shiftLeft_eq, Nat.shiftLeft_eq]
  simp only [beNat_cons, List.length_cons, List.length_nil, beNat_nil]
  ring

/-- R179: a mask of four bytes is taken where the first is zero, and names the flags of the other three. -/
theorem eventSetOf_fourBytes (b3 b2 b1 b0 : Byte) :
    eventSetOf (fieldAt [b3, b2, b1, b0] 0 4) = if b3 = 0x00#8 then some (b2 ++ b1 ++ b0) else none := by
  have hword : fieldAt [b3, b2, b1, b0] 0 4 = b3.toNat * 256 ^ 3 + (b2 ++ b1 ++ b0).toNat := by
    rw [← beNat_three, fieldAt, List.drop_zero, List.take_of_length_le (by simp), beNat_cons]
    rfl
  split
  · rename_i hzero
    rw [eventSetOf_eq_some_iff, hword, hzero]
    simp
  · rename_i hset
    have hb3 : b3.toNat ≠ 0 := fun h => hset (BitVec.eq_of_toNat_eq h)
    exact if_neg (by omega)

/-- Log entry 32: the flag word has its top byte zero. -/
theorem beBytes_four_flags (flags : EventSet) : beBytes 4 flags.toNat = 0x00#8 :: beBytes 3 flags.toNat := by
  have htop : flags.toNat / 256 ^ 3 = 0 := Nat.div_eq_of_lt flags.isLt
  rw [beBytes, htop]

/-! ### The two commands (R178, R179) -/

theorem exec_readEvents {s : State} (hs : s.takes) (tag : Byte) :
    exec (.readEvents tag []) s = .next
      (State.respond { s.passed with flags := s.flags &&& s.params.keepMask } tag 0x03#8 .ok
        (0x00#8 :: beBytes 3 s.flags.toNat)) := by
  rw [← beBytes_four_flags]
  exact exec_of_reply (r := (s.passed.setFlags (s.flags &&& s.params.keepMask)).accept (beBytes 4 s.flags.toNat)) rfl hs
    (by decide) rfl

/-- R179: the reply to a mask of four bytes. -/
theorem cmdClearEvents_fourBytes (b3 b2 b1 b0 : Byte) (s : State) :
    cmdClearEvents [b3, b2, b1, b0] s =
      if b3 = 0x00#8 then (s.setFlags (s.flags &&& ~~~(b2 ++ b1 ++ b0))).accept [] else s.refuse .badArgument := by
  unfold cmdClearEvents
  rw [eventSetOf_fourBytes]
  by_cases hzero : b3 = 0x00#8
  · rw [if_pos hzero, if_pos hzero]
    rfl
  · rw [if_neg hzero, if_neg hzero]
    rfl

theorem exec_clearEvents {s : State} (hs : s.takes) (tag b3 b2 b1 b0 : Byte) :
    exec (.clearEvents tag [b3, b2, b1, b0]) s = .next
      (if b3 = 0x00#8 then State.respond { s.passed with flags := s.flags &&& ~~~(b2 ++ b1 ++ b0) } tag 0x04#8 .ok []
      else s.passed.respond tag 0x04#8 .badArgument []) := by
  rw [exec_of_reply_at (i := .clearEvents tag [b3, b2, b1, b0]) rfl hs (by simp [maxArgs]) (by decide)]
  change Host.Outcome.next ((cmdClearEvents [b3, b2, b1, b0] s.passed).send _) = _
  rw [cmdClearEvents_fourBytes]
  exact congrArg Host.Outcome.next (Reply.send_ite Iff.rfl rfl rfl)

/-! ### The alert lines (R180) -/

/-- R180: a line is high where its polarity and its assertion agree. -/
theorem alertLevel_eq_true_iff (pol : Polarity) (mask flags : EventSet) :
    alertLevel pol (alertAsserted mask flags) = true ↔ (pol = .high ↔ flags &&& mask ≠ 0) := by
  cases pol <;> simp [alertLevel, alertAsserted]

/-- Settles O46: each command by its reply, each line by its polarity. -/
theorem eventsAreReadAndCleared : Obligations.EventsAreReadAndCleared := by
  refine fun tag s => ⟨fun hs => exec_readEvents hs tag, fun b3 b2 b1 b0 hs => exec_clearEvents hs tag b3 b2 b1 b0,
    fun hheld => ?_, fun hfree => ?_⟩
  · simp [State.alertA, State.alertB, hheld]
  · simp only [State.alertA, State.alertB, hfree, Bool.not_false, Bool.true_and, alertLevel_eq_true_iff, and_self]

end Sys2Proof.Machine
end

section
/-! PROOFS. The step of the queue of commands (O1) and the soft reset (O4). -/

namespace Sys2Proof.Machine

/-! ### The front of the queue, and the idle step (R186) -/

theorem step_of_no_command {s : State} (h : s.pending = []) : step s = .next (drainCommands 1 s) := by
  rw [step, h]
  rfl

/-- Settles O1: the front command by the definition of a step, the idle step by what one taking does. -/
theorem stepRunsTheFrontCommand : Obligations.StepRunsTheFrontCommand := by
  refine ⟨fun s c rest => rfl, fun s hempty => ⟨fun c rest hread hqueue => ?_, fun hidle => ?_⟩⟩
  · rw [step_of_no_command hempty, drainCommands_succ 0 hread hqueue]
    rfl
  · rw [step_of_no_command hempty, drainCommands_of_idle 1 hidle]

/-! ### The soft reset and its answer (R126, R174, R182, R198) -/

/-- R126: only PENDING changes at a soft reset. -/
theorem StagedStatus.afterSoftReset_eq (st : StagedStatus) :
    st.afterSoftReset = if st = .pending then .dirty else st := by cases st <;> rfl

/-- R126: the Table Store after a soft reset, its statuses written out. -/
theorem Tbs.afterSoftReset_eq (t : Tbs) :
    t.afterSoftReset =
      { t with
        retiring := t.bankActive
        stagedStatus :=
          PerTable.tabulate fun id => if t.stagedStatus.get id = .pending then .dirty else t.stagedStatus.get id
        grants := 0 } := by
  simp only [Tbs.afterSoftReset, StagedStatus.afterSoftReset_eq]

/-- R174: an answer without a body is admitted to an emptied framer. -/
theorem State.offerAnswer_of_initial {s : State} (h : s.rlf = Rlf.initial) {a : Answer} (hbody : a.body = []) :
    s.offerAnswer a = s.admitFrame (.rsp a) := by
  have hbytes : s.bufferBytes = 0 := by rw [State.bufferBytes, h]; rfl
  have hlength : (Payload.rsp a).frameLength = 12 := by rw [Payload.frameLength, Payload.size, hbody]; rfl
  refine if_pos ?_
  rw [Bool.and_eq_true, State.fitsFreeSpace_iff, h, hbytes, hlength]
  decide

/-- R198: RESET taken by the interpreter, in every state. -/
theorem State.takeCommand_reset (s : State) (tag : Byte) :
    s.takeCommand ⟨tag, 0x14#8, []⟩ = s.softReset.admitFrame (.rsp ⟨tag, 0x14#8, .ok, []⟩) :=
  State.offerAnswer_of_initial (s := s.softReset) (a := ⟨tag, 0x14#8, .ok, []⟩) rfl rfl

/-- Settles O4: RESET as it is taken, then its delivery at the lines that its row finds. -/
theorem softResetKeepsTheSettings : Obligations.SoftResetKeepsTheSettings := by
  intro tag s flags answer summary after
  have htaken : s.takeCommand ⟨tag, 0x14#8, []⟩ = after s.pins.resetHeld s.pins.calEn s.pins.recReady := by
    rw [s.takeCommand_reset, State.admitFrame, State.softReset, Tbs.afterSoftReset_eq]
    rfl
  refine ⟨htaken, fun l hs => ?_⟩
  have hheld : s.pins.resetHeld = false := hs.1.1
  rw [exec_of_takes s (i := .reset tag [] l) rfl hs (Nat.zero_le _), State.takeCommand_reset, ← hheld]
  simp only [State.atLines, State.withLines_eq, State.admitFrame, State.softReset, Tbs.afterSoftReset_eq]
  rfl

end Sys2Proof.Machine
end

section
/-! PROOFS. IDENTIFY, GET_STATUS and GET_PARAM (O48), and SET_PARAM (O49). -/

namespace Sys2Proof.Machine

/-! ### The bytes of the reports (R189, R190, R192) -/

theorem byte_toNat (b : Byte) : byte b.toNat = b := BitVec.eq_of_toNat_eq (Nat.mod_eq_of_lt b.isLt)

/-- R190: the counts of a unit that only the P4C has. -/
theorem onP4c_eq (variant : Variant) (n : Nat) : onP4c variant n = if variant = .p4c then n else 0 := by
  cases variant <;> rfl

/-- R191, R192: the id and the value that an answer carries, for an id that names a parameter. -/
theorem State.paramBody_of_value {s : State} {id : Byte} {held : Nat} (h : s.params.value id.toNat = some held) :
    s.paramBody id.toNat = id :: beBytes 4 held := by
  rw [State.paramBody, byte_toNat, h]
  rfl

theorem paramAbsent_iff (variant : Variant) (id : Nat) :
    paramAbsent variant id = true ↔ variant = .p4m ∧ (id = 9 ∨ id = 10) := decide_eq_true_iff

/-! ### GET_PARAM, IDENTIFY and GET_STATUS -/

/-- R192: GET_PARAM by the value held. -/
theorem cmdGetParam_spec (s : State) (id : Byte) :
    (s.params.value id.toNat = none → cmdGetParam [id] s = s.refuse .badArgument) ∧
    (∀ held, s.params.value id.toNat = some held →
      cmdGetParam [id] s =
        if paramAbsent s.variant id.toNat then s.refuse .notSupported else s.accept (id :: beBytes 4 held)) := by
  rw [cmdGetParam, Reply.ofLength, if_pos (List.length_singleton ..), fieldAt_head]
  dsimp only
  refine ⟨fun h => by rw [h]; rfl, fun held h => ?_⟩
  rw [State.paramBody_of_value h, h]
  rfl

theorem State.takeCommand_getStatus (s : State) (tag : Byte) :
    s.takeCommand ⟨tag, 0x02#8, []⟩ = s.respond tag 0x02#8 .ok s.statusBody := rfl

/-- Settles O48: GET_PARAM by the value held, the other two by the bytes of their reports. -/
theorem identityStatusAndParametersAreReported : Obligations.IdentityStatusAndParametersAreReported := by
  refine ⟨fun tag id s hs => ?_, ?_⟩
  · intro u
    obtain ⟨hnone, hsome⟩ := cmdGetParam_spec u id
    rw [exec_of_reply_at (i := .getParam tag [id]) rfl hs (by simp [maxArgs]) (by decide)]
    refine congrArg Host.Outcome.next ?_
    change (cmdGetParam [id] u).send _ = _
    cases hvalue : s.params.value id.toNat with
    | none =>
      rw [hnone hvalue]
      rfl
    | some held =>
      rw [hsome held hvalue]
      exact Reply.send_ite (paramAbsent_iff _ _) rfl rfl
  · intro status
    have hstatus : ∀ s : State, status s = s.statusBody := fun s => by simp only [status, State.statusBody, onP4c_eq]
    simp only [hstatus]
    refine ⟨fun tag s => s.takeCommand_getStatus tag, fun tag s hs => ⟨?_, ?_⟩⟩
    · rw [exec_of_reply (i := .identify tag []) (r := s.passed.accept (identityBody s.variant)) rfl hs (by decide) rfl]
      cases s.variant <;> rfl
    · exact exec_of_reply (i := .getStatus tag []) rfl hs (by decide) (r := s.passed.accept s.statusBody) rfl

/-! ### SET_PARAM (R191, R19) -/

/-- R191: an id that names no parameter is refused with the value zero. -/
theorem cmdSetParam_of_no_value {s : State} {id : Byte} (h : s.params.value id.toNat = none) (v3 v2 v1 v0 : Byte) :
    cmdSetParam [id, v3, v2, v1, v0] s = ⟨s, .badArgument, [id, 0, 0, 0, 0]⟩ := by
  have hargs : [id, v3, v2, v1, v0].length = 5 := rfl
  rw [cmdSetParam, Reply.ofLength, if_pos hargs, fieldAt_head]
  dsimp only
  rw [State.paramBody, byte_toNat, h]
  rfl

/-- R191: the checks behind the first, in their order, and the write. -/
theorem cmdSetParam_of_value {s : State} {id : Byte} {held : Nat} (h : s.params.value id.toNat = some held)
    (v3 v2 v1 v0 : Byte) :
    cmdSetParam [id, v3, v2, v1, v0] s =
      if paramAbsent s.variant id.toNat then ⟨s, .notSupported, id :: beBytes 4 held⟩
      else if writtenInStoppedOnly id.toNat ∧ s.emq.run ≠ .stopped then ⟨s, .wrongState, id :: beBytes 4 held⟩
      else
        match s.params.write id.toNat (beNat [v3, v2, v1, v0]) with
        | none => ⟨s, .badArgument, id :: beBytes 4 held⟩
        | some new => (s.writeParams new).accept ((s.writeParams new).paramBody id.toNat) := by
  have hargs : [id, v3, v2, v1, v0].length = 5 := rfl
  rw [cmdSetParam, Reply.ofLength, if_pos hargs, fieldAt_head]
  dsimp only
  rw [State.paramBody_of_value h, h]
  rfl

/-- Settles O49: the checks of R191 one after another, then the write with what R19 adds. -/
theorem setParamIsCheckedInOrder : Obligations.SetParamIsCheckedInOrder := by
  intro tag id v3 v2 v1 v0 s hs u word unlocked
  rw [exec_of_reply_at (i := .setParam tag [id, v3, v2, v1, v0]) rfl hs (by simp [maxArgs]) (by decide)]
  refine congrArg Host.Outcome.next ?_
  change (cmdSetParam [id, v3, v2, v1, v0] u).send _ = _
  cases hvalue : s.params.value id.toNat with
  | none => rw [cmdSetParam_of_no_value (s := u) hvalue]; rfl
  | some held =>
    rw [cmdSetParam_of_value (s := u) hvalue]
    refine Reply.send_ite (paramAbsent_iff _ _) rfl
      (Reply.send_ite (and_congr_left fun _ => decide_eq_true_iff) rfl ?_)
    change Reply.send (match s.params.write id.toNat word with
      | none => _
      | some new => _) _ = _
    cases s.params.write id.toNat word with
    | none => rfl
    | some new =>
      simp only [State.paramBody, byte_toNat]
      rfl

end Sys2Proof.Machine
end
